-- ==== Sys2Proof/Word.lean ====
section
/-! DEFINITION. The word types of the CORE (R7): an 8-bit Word and a 16-bit Address. -/

namespace Sys2Proof

/-- A Word is 8 bits (R7). -/
abbrev Byte := BitVec 8

/-- An Address (DoubleWord) is 16 bits (R7). -/
abbrev Addr := BitVec 16

end Sys2Proof
end

