-- ==== Sys2Proof/Config.lean ====
section
/-! DEFINITION. The parameters of the spec that it leaves open (R9, R44): constants with no body, so
that no proof can see their values and a claim holds whatever they are. `P_IO_RESET`, `P_INIT_MEM`
and `P_CART` are arguments of the host's operations instead (Machine/HostOps.lean). -/

namespace Sys2Proof

/-- The two answers R9 allows for what HuC1 maps at 0x4000-0x7FFF when its ROM bank register is 0. -/
inductive Huc1ZeroBank where
  | alias1
  | bank0
  deriving DecidableEq, Repr, Inhabited

/-- `P_OPEN_BUS`: the value read where no storage answers (R9, D5; log 5). -/
opaque Config.openBus : Byte

/-- `P_UNUSABLE_READ`: "the fixed sentinel read from 0xFEA0-0xFEFF" (R9, R60, D4; log 6). -/
opaque Config.unusableRead : Byte

/-- `P_HUC1_ZERO_BANK` (R9, R95, D25; log 7). -/
opaque Config.huc1ZeroBank : Huc1ZeroBank

/-- The 256 bytes of `P_BOOT_ROM` (R9, R63, D18; log 8). Whether it is present is BOOT_MAPPED's
affair at reset (R47). -/
opaque Config.bootRom : Byte → Byte

end Sys2Proof
end

