-- ==== Sys2Proof/Machine/Bits.lean ====
section
/-! DEFINITION. Byte order, sign extension and single bits (R11, R12, R13). -/

namespace Sys2Proof

/-- `pack(lo, hi) = lo | (hi << 8)` (R13). -/
def pack (lo hi : Byte) : Addr := hi ++ lo

/-- `w[7:0]`, the first half of `split(w)` (R13). -/
def lowByte (w : Addr) : Byte := w.extractLsb' 0 8

/-- `w[15:8]`, the second half of `split(w)` (R13). -/
def highByte (w : Addr) : Byte := w.extractLsb' 8 8

/-- `sext_16(v8)` (R12). -/
def sext16 (v : Byte) : Addr := v.signExtend 16

/-- `zext_16(v8)` (R12). -/
def zext16 (v : Byte) : Addr := v.setWidth 16

/-- `v[i]` as a truth value (R11). -/
def bitOf (v : Byte) (i : Nat) : Bool := v.getLsbD i

/-- A truth value as the integer 0 or 1 (the carry-in `c` of R154, R160). -/
def carryNat (c : Bool) : Nat := if c then 1 else 0

/-- A truth value as a byte holding 0 or 1. -/
def carryByte (c : Bool) : Byte := if c then 1#8 else 0#8

end Sys2Proof
end

