-- ==== Sys2Proof/Machine/State.lean ====
section
/-! DEFINITION. The state of the CORE (10_state.md): plain data, one field per piece of state, the
reasons a step can stop, and the state after reset. -/

namespace Sys2Proof.Machine

/-- Why a step stops. These are the three model faults of R236: points where the chip does something
the spec "does not model". None is reached by ordinary data. All three are safe: the model stops
where the hardware goes on. `exec` and `dispatch` raise them; `step` turns a raise into the mark
FAULT (R236, log 9) and answers the fault itself in a state that holds the mark, which "has no
further step". -/
inductive Fault where
  /-- `F_HALT_BUG`: raised by HALT with IME = 0 and IE & IF & 0x1F != 0 (R225). Safe. -/
  | haltBug
  /-- `F_IE_PUSH`: raised by interrupt dispatch with SP = 0x0000 (R241). Safe. -/
  | iePush
  /-- `F_HUC1_IR`: raised by a bus access to 0xA000-0xBFFF on a HuC1 cartridge in infrared mode
  (R97), a fetch included. Safe. -/
  | huc1Ir
  deriving DecidableEq, Repr

/-- Why an instruction is refused. -/
inductive Refusal where
  /-- Raised by `exec` for an instruction with no meaning in the model (none is left). Safe. -/
  | notModelled (mnemonic : String)
  deriving DecidableEq, Repr

/-- The run mode MODE (R31, C2). -/
inductive RunMode where
  | running
  | halted
  | stopped
  | locked
  deriving DecidableEq, Repr

/-- Bytes of storage by address or offset, in one canonical form: addresses strictly rising, no
entry equal to what an unlisted one reads as (Machine/Memory.lean). -/
abbrev Cells := List Host.Cell

/-- The storage of the bus, VRAM, WRAM, OAM, IO and HRAM (R34), keyed by bus address; the echo
window has no storage of its own (R59). -/
abbrev Memory := Cells

/-- A ROM image (R36): its length, and its bytes that are not 0x00 by offset. -/
structure RomImage where
  size : Nat
  bytes : Cells
  deriving DecidableEq, Repr

/-- The header fields of a cartridge (R71). -/
structure Header where
  /-- The byte at 0x147. -/
  typeByte : Byte
  /-- The byte at 0x148, not used (D20). -/
  romSizeCode : Byte
  /-- The byte at 0x149 (R74). -/
  ramSizeCode : Byte
  /-- The byte at 0x14A, with no effect (D26). -/
  destinationCode : Byte
  /-- The byte at 0x14D, recorded and not verified (D26). -/
  headerChecksum : Byte
  /-- The byte at 0x14E, the first of the global checksum. -/
  globalChecksum0 : Byte
  /-- The byte at 0x14F, the second of the global checksum. -/
  globalChecksum1 : Byte
  deriving DecidableEq, Repr

/-- The features a cartridge's type byte gives it (R72). -/
structure Features where
  ram : Bool
  battery : Bool
  rtc : Bool
  rumble : Bool
  deriving DecidableEq, Repr

/-- The six kinds of bank controller (R77). -/
inductive ControllerKind where
  | fixed
  | mbc1
  | mbc2
  | mbc3
  | mbc5
  | huc1
  deriving DecidableEq, Repr

/-- A real-time-clock register set (R40). The three bits of RTC_DH that are stored are named; its
bits 5:1 read as 0. -/
structure RtcSet where
  /-- RTC_S, 6 bits. -/
  seconds : BitVec 6
  /-- RTC_M, 6 bits. -/
  minutes : BitVec 6
  /-- RTC_H, 5 bits. -/
  hours : BitVec 5
  /-- RTC_DL, day counter bits 7:0. -/
  dayLow : Byte
  /-- RTC_DH bit 0, day counter bit 8. -/
  dayHigh : Bool
  /-- RTC_DH bit 6. -/
  halt : Bool
  /-- RTC_DH bit 7, the day-counter carry. -/
  dayCarry : Bool
  deriving DecidableEq, Repr

/-- A register set that holds zeros. -/
def RtcSet.zero : RtcSet :=
  { seconds := 0#6, minutes := 0#6, hours := 0#5, dayLow := 0#8, dayHigh := false, halt := false,
    dayCarry := false }

/-- The registers of MBC1 (R37). -/
structure Mbc1 where
  ramg : Bool
  bank1 : BitVec 5
  bank2 : BitVec 2
  bmode : Bool
  deriving DecidableEq, Repr

/-- The registers of MBC2 (R38). -/
structure Mbc2 where
  ramg : Bool
  romb : BitVec 4
  deriving DecidableEq, Repr

/-- The registers of MBC3 (R39). LIVE and LATCHED take part only where the cartridge has an RTC. -/
structure Mbc3 where
  ramg : Bool
  romb : BitVec 7
  sel : Byte
  latchLast : Option Byte
  live : RtcSet
  latched : RtcSet
  deriving DecidableEq, Repr

/-- The registers of MBC5 (R41). -/
structure Mbc5 where
  ramg : Bool
  romb : BitVec 9
  ramb : BitVec 4
  deriving DecidableEq, Repr

/-- The registers of HuC1 (R42). -/
structure Huc1 where
  ramg : Bool
  irmode : Bool
  romb : BitVec 6
  ramb : BitVec 2
  deriving DecidableEq, Repr

/-- The bank controller, "a single tagged variant" (R77), with its runtime state. -/
inductive Mbc where
  | fixed
  | mbc1 (r : Mbc1)
  | mbc2 (r : Mbc2)
  | mbc3 (r : Mbc3)
  | mbc5 (r : Mbc5)
  | huc1 (r : Huc1)
  deriving DecidableEq, Repr

/-- A cartridge record (R36). -/
structure Cartridge where
  rom : RomImage
  header : Header
  features : Features
  mbc : Mbc
  /-- CRAM by offset, the 512 four-bit cells of MBC2 included (R85). -/
  cram : Cells
  deriving DecidableEq, Repr

/-- What answers at a bus address (R56): the cartridge, a byte of storage, nothing, or IE. -/
inductive Backing where
  | cart
  | store (key : Nat)
  | unusable
  | ie
  deriving DecidableEq, Repr

/-- The whole state of the CORE (R19 to R42). -/
structure State where
  /-- The accumulator A (R19). -/
  a : Byte
  /-- The flags F: Z N H C in bits 7 to 4, bits 3 to 0 zero (R26, R27). -/
  f : Byte
  /-- B (R19). -/
  b : Byte
  /-- C (R19). -/
  c : Byte
  /-- D (R19). -/
  d : Byte
  /-- E (R19). -/
  e : Byte
  /-- H (R19). -/
  h : Byte
  /-- L (R19). -/
  l : Byte
  /-- The stack pointer SP (R22). -/
  sp : Addr
  /-- The program counter PC (R23). -/
  pc : Addr
  /-- IME (R29). -/
  ime : Bool
  /-- IME_PENDING (R30). -/
  imePending : Bool
  /-- MODE (R31). -/
  mode : RunMode
  /-- FAULT, none or the model fault a step raised (R32). -/
  fault : Option Fault
  /-- CYCLES (R33). -/
  cycles : Nat
  /-- VRAM, WRAM, OAM, IO and HRAM (R34). -/
  mem : Memory
  /-- IE (R34, R69). -/
  ie : Byte
  /-- BOOT_MAPPED (R35). -/
  bootMapped : Bool
  /-- CART: absent, or the cartridge (R36). -/
  cart : Option Cartridge
  deriving DecidableEq, Repr

/-- The machine right after reset, without a boot ROM (R45, R47, R48): DESIGN CHOICE which of the
two configurations (log 1) and that no cartridge is loaded (log 2). Memory lists nothing: an unlisted
byte reads its P_IO_RESET or P_INIT_MEM value (log 3, log 4). The reset with a boot ROM, with a
cartridge, or with other images is `hostReset` (Machine/HostOps.lean). -/
def State.reset : State :=
  { a := 0x01#8, f := 0xB0#8, b := 0x00#8, c := 0x13#8, d := 0x00#8, e := 0xD8#8, h := 0x01#8,
    l := 0x4D#8, sp := 0xFFFE#16, pc := 0x0100#16, ime := false, imePending := false,
    mode := .running, fault := none, cycles := 0, mem := [], ie := 0x00#8, bootMapped := false,
    cart := none }

/-- What a meaning answers. -/
abbrev Result := Host.Outcome State Fault Refusal

end Sys2Proof.Machine
end

