-- ==== Sys2Proof/Machine/Memory.lean ====
section
/-! DEFINITION. Bytes of storage in canonical form: reading, writing, and the form itself; and what a
byte of the bus storage that nothing has written reads as (R48, R68). -/

namespace Sys2Proof.Machine

/-! ## Cells over a default -/

/-- The byte at `k`: the entry, or `dflt k` where there is none. -/
def readCells (dflt : Nat → Byte) (cells : Cells) (k : Nat) : Byte :=
  match cells with
  | [] => dflt k
  | (k', v) :: rest => if k = k' then v else readCells dflt rest k

/-- Put `v` at `k`, keeping the canonical form: the value an unlisted `k` reads as is not listed. -/
def writeCells (dflt : Nat → Byte) (cells : Cells) (k : Nat) (v : Byte) : Cells :=
  match cells with
  | [] => if v = dflt k then [] else [(k, v)]
  | (k', v') :: rest =>
    if k < k' then (if v = dflt k then (k', v') :: rest else (k, v) :: (k', v') :: rest)
    else if k = k' then (if v = dflt k then rest else (k, v) :: rest)
    else (k', v') :: writeCells dflt rest k v

/-- Every key of the list is above `k`, where there is a first one. -/
def aboveHead (k : Nat) (cells : Cells) : Bool :=
  match cells with
  | [] => true
  | (k', _) :: _ => decide (k < k')

/-- The canonical form: keys strictly rising, no entry equal to the default. -/
def cellsWf (dflt : Nat → Byte) (cells : Cells) : Bool :=
  match cells with
  | [] => true
  | (k, v) :: rest => decide (v ≠ dflt k) && aboveHead k rest && cellsWf dflt rest

/-- Write a list of bytes at `k`, `k + 1`, ... -/
def writeBytes (dflt : Nat → Byte) (cells : Cells) (k : Nat) (bytes : List Byte) : Cells :=
  match bytes with
  | [] => cells
  | v :: rest => writeBytes dflt (writeCells dflt cells k v) (k + 1) rest

/-! ## The bus storage -/

/-- The default `P_IO_RESET` (R68), the DMG post-boot values. -/
def ioResetTable : List (Nat × Byte) :=
  [(0xFF00, 0xCF#8), (0xFF01, 0x00#8), (0xFF02, 0x7E#8), (0xFF04, 0xAB#8), (0xFF05, 0x00#8),
   (0xFF06, 0x00#8), (0xFF07, 0xF8#8), (0xFF0F, 0xE1#8), (0xFF10, 0x80#8), (0xFF11, 0xBF#8),
   (0xFF12, 0xF3#8), (0xFF13, 0xFF#8)]
  ++ [(0xFF14, 0xBF#8), (0xFF16, 0x3F#8), (0xFF17, 0x00#8), (0xFF18, 0xFF#8), (0xFF19, 0xBF#8),
   (0xFF1A, 0x7F#8), (0xFF1B, 0xFF#8), (0xFF1C, 0x9F#8), (0xFF1D, 0xFF#8), (0xFF1E, 0xBF#8),
   (0xFF20, 0xFF#8), (0xFF21, 0x00#8), (0xFF22, 0x00#8)]
  ++ [(0xFF23, 0xBF#8), (0xFF24, 0x77#8), (0xFF25, 0xF3#8), (0xFF26, 0xF1#8), (0xFF40, 0x91#8),
   (0xFF41, 0x85#8), (0xFF42, 0x00#8), (0xFF43, 0x00#8), (0xFF44, 0x00#8), (0xFF45, 0x00#8),
   (0xFF46, 0xFF#8), (0xFF47, 0xFC#8), (0xFF4A, 0x00#8), (0xFF4B, 0x00#8)]

/-- The value of `key` in a table, 0x00 where it has none. -/
def lookupByte (table : List (Nat × Byte)) (key : Nat) : Byte :=
  match table with
  | [] => 0x00#8
  | (k, v) :: rest => if key = k then v else lookupByte rest key

/-- What an unlisted byte of the bus storage reads as: the default I/O reset table at 0xFF00-0xFF7F
(R68; DESIGN CHOICE 0x00 for the addresses it does not list, log 4), and DESIGN CHOICE 0x00 in VRAM,
WRAM, OAM and HRAM, whose contents at reset the spec leaves to `P_INIT_MEM` (R48; log 3). -/
def Memory.unlisted (key : Nat) : Byte :=
  if 0xFF00 ≤ key ∧ key ≤ 0xFF7F then lookupByte ioResetTable key else 0x00#8

/-- The byte of the bus storage at `key`. -/
def Memory.read (m : Memory) (key : Nat) : Byte := readCells Memory.unlisted m key

/-- Write a byte of the bus storage. -/
def Memory.write (m : Memory) (key : Nat) (v : Byte) : Memory := writeCells Memory.unlisted m key v

/-- The canonical form of the bus storage. -/
def Memory.wf (m : Memory) : Bool := cellsWf Memory.unlisted m

/-- The keys the bus storage has bytes for: VRAM, WRAM, OAM, IO and HRAM (R34). -/
def Memory.isKey (key : Nat) : Bool :=
  decide (0x8000 ≤ key ∧ key ≤ 0x9FFF) || decide (0xC000 ≤ key ∧ key ≤ 0xDFFF)
    || decide (0xFE00 ≤ key ∧ key ≤ 0xFE9F) || decide (0xFF00 ≤ key ∧ key ≤ 0xFFFE)

/-! ## Cartridge storage: bytes that default to 0x00 -/

/-- An unlisted byte of a ROM image (within its size) or of cartridge RAM: 0x00 (CRAM: log 3). -/
def zeroByte (_ : Nat) : Byte := 0x00#8

/-- The byte at an offset of a ROM image or of cartridge RAM. -/
def Cells.readZ (cells : Cells) (k : Nat) : Byte := readCells zeroByte cells k

/-- Write a byte at an offset of cartridge RAM. -/
def Cells.writeZ (cells : Cells) (k : Nat) (v : Byte) : Cells := writeCells zeroByte cells k v

/-- The canonical form of a ROM image's or cartridge RAM's bytes. -/
def Cells.wfZ (cells : Cells) : Bool := cellsWf zeroByte cells

/-- The cells of a list of bytes from offset `k` on. -/
def imageCells (k : Nat) (bytes : List Byte) : Cells :=
  match bytes with
  | [] => []
  | v :: rest => if v = 0x00#8 then imageCells (k + 1) rest else (k, v) :: imageCells (k + 1) rest

/-- The ROM image that holds a list of bytes. -/
def RomImage.ofBytes (bytes : List Byte) : RomImage :=
  { size := bytes.length, bytes := imageCells 0 bytes }

end Sys2Proof.Machine
end

