-- ==== Sys2Proof/Machine/Cartridge.lean ====
section
/-! DEFINITION. The cartridge: header parse, ROM and RAM bank helpers, the reads and writes of the six
bank controllers, their reset, and the MBC3 clock (20_memory.md sections 3 to 9). -/

namespace Sys2Proof.Machine

/-! ## ROM and RAM helpers -/

/-- `NB = ceil(len(ROM) / 0x4000)` (R75). -/
def romBanks (rom : RomImage) : Nat := (rom.size + 0x3FFF) / 0x4000

/-- `P2`, the smallest power of two with `P2 >= max(2, NB)` (R75). -/
def romBankCount (rom : RomImage) : Nat := 2 ^ (Nat.log2 (max 2 (romBanks rom) - 1) + 1)

/-- The image offset `RomByte(bank, a)` reads (R75). -/
def romOffset (rom : RomImage) (bank : Nat) (a : Addr) : Nat :=
  (bank &&& (romBankCount rom - 1)) * 0x4000 + (a.toNat &&& 0x3FFF)

/-- `RomByte(bank, a)` (R75). -/
def romByte (rom : RomImage) (bank : Nat) (a : Addr) : Byte :=
  if romOffset rom bank a < rom.size then rom.bytes.readZ (romOffset rom bank a)
  else Config.openBus

/-- CRAM_SIZE by the RAM-size code (R74). -/
def ramSizeOfCode (code : Byte) : Nat :=
  if code = 0x01#8 then 0x800
  else if code = 0x02#8 then 0x2000
  else if code = 0x03#8 then 0x8000
  else if code = 0x04#8 then 0x20000
  else if code = 0x05#8 then 0x10000
  else 0

/-- CRAM_SIZE (R74): MBC2's 512 cells, or by the type's RAM feature and the RAM-size code. -/
def Cartridge.cramSize (c : Cartridge) : Nat :=
  match c.mbc with
  | .mbc2 _ => 512
  | _ => if c.features.ram then ramSizeOfCode c.header.ramSizeCode else 0

/-- `RamOff(bank, a)` (R76). -/
def ramOff (c : Cartridge) (bank : Nat) (a : Addr) : Nat :=
  (bank * 0x2000 + (a.toNat - 0xA000)) % c.cramSize

/-! ## The RTC register set (R40, R89) -/

/-- The registers MBC3's SEL can select (R89). -/
inductive RtcReg where
  | s | m | h | dl | dh
  deriving DecidableEq, Repr

/-- The RTC register SEL selects (R89). -/
def rtcRegOfSel (sel : Byte) : Option RtcReg :=
  if sel = 0x08#8 then some .s
  else if sel = 0x09#8 then some .m
  else if sel = 0x0A#8 then some .h
  else if sel = 0x0B#8 then some .dl
  else if sel = 0x0C#8 then some .dh
  else none

/-- The byte an RTC register reads as (R40, R89). -/
def rtcRead (t : RtcSet) (r : RtcReg) : Byte :=
  match r with
  | .s => t.seconds.setWidth 8
  | .m => t.minutes.setWidth 8
  | .h => t.hours.setWidth 8
  | .dl => t.dayLow
  | .dh => BitVec.ofBool t.dayCarry ++ BitVec.ofBool t.halt ++ 0#5 ++ BitVec.ofBool t.dayHigh

/-- Write an RTC register under its mask: S and M 0x3F, H 0x1F, DL 0xFF, DH 0xC1 (R89). -/
def rtcWrite (t : RtcSet) (r : RtcReg) (v : Byte) : RtcSet :=
  match r with
  | .s => { t with seconds := v.setWidth 6 }
  | .m => { t with minutes := v.setWidth 6 }
  | .h => { t with hours := v.setWidth 5 }
  | .dl => { t with dayLow := v }
  | .dh => { t with dayHigh := bitOf v 0, halt := bitOf v 6, dayCarry := bitOf v 7 }

/-- The day counter, `RTC_DL | (RTC_DH[0] << 8)` (R90). -/
def rtcDay (t : RtcSet) : Nat := t.dayLow.toNat + 256 * carryNat t.dayHigh

/-- Advance the day counter by one; 512 wraps to 0 and sets the day carry (R90). -/
def rtcNextDay (t : RtcSet) : RtcSet :=
  let day := rtcDay t + 1
  if day = 512 then { t with dayLow := 0#8, dayHigh := false, dayCarry := true }
  else { t with dayLow := BitVec.ofNat 8 day, dayHigh := decide (256 ≤ day) }

/-- Advance a register set by one second, where it is not halted (R90). -/
def rtcAdvance (t : RtcSet) : RtcSet :=
  if t.halt then t
  else
    let s := t.seconds + 1#6
    if s ≠ 60#6 then { t with seconds := s }
    else
      let m := t.minutes + 1#6
      if m ≠ 60#6 then { t with seconds := 0#6, minutes := m }
      else
        let h := t.hours + 1#5
        if h ≠ 24#5 then { t with seconds := 0#6, minutes := 0#6, hours := h }
        else rtcNextDay { t with seconds := 0#6, minutes := 0#6, hours := 0#5 }

/-! ## Reads -/

/-- The ROM bank each controller shows at 0x0000-0x3FFF (R79, R81, R84, R87, R92, R95). -/
def Mbc.lowBank (m : Mbc) : Nat :=
  match m with
  | .mbc1 r => if r.bmode then r.bank2.toNat * 32 else 0
  | _ => 0

/-- The ROM bank each controller shows at 0x4000-0x7FFF (R79, R81, R84, R87, R92, R95). -/
def Mbc.highBank (m : Mbc) : Nat :=
  match m with
  | .fixed => 1
  | .mbc1 r => r.bank2.toNat * 32 + r.bank1.toNat
  | .mbc2 r => r.romb.toNat
  | .mbc3 r => r.romb.toNat
  | .mbc5 r => r.romb.toNat
  | .huc1 r => if r.romb = 0#6 ∧ Config.huc1ZeroBank = .alias1 then 1 else r.romb.toNat

/-- The CRAM offset the window 0xA000-0xBFFF shows at `a`, where the controller shows RAM there (R82,
R85, R88, R93, R96; Fixed has none, R79). -/
def Cartridge.cramOffset (c : Cartridge) (a : Addr) : Option Nat :=
  match c.mbc with
  | .fixed => none
  | .mbc1 r =>
    if r.ramg ∧ 0 < c.cramSize then some (ramOff c (if r.bmode then r.bank2.toNat else 0) a) else none
  | .mbc2 r => if r.ramg then some ((a.toNat - 0xA000) &&& 0x1FF) else none
  | .mbc3 r =>
    if r.ramg ∧ r.sel.toNat ≤ 3 ∧ 0 < c.cramSize then some (ramOff c r.sel.toNat a) else none
  | .mbc5 r => if r.ramg ∧ 0 < c.cramSize then some (ramOff c r.ramb.toNat a) else none
  | .huc1 r => if r.ramg ∧ 0 < c.cramSize then some (ramOff c r.ramb.toNat a) else none

/-- The RTC register the window 0xA000-0xBFFF shows, on an MBC3 with an RTC (R88). -/
def Cartridge.rtcSelected (c : Cartridge) : Option (Mbc3 × RtcReg) :=
  match c.mbc with
  | .mbc3 r =>
    if r.ramg ∧ c.features.rtc then (rtcRegOfSel r.sel).map (fun reg => (r, reg)) else none
  | _ => none

/-- A CRAM byte as the bus reads it: MBC2's cells are four bits, and the upper nibble of a read is
open bus (R85). -/
def Cartridge.cramView (c : Cartridge) (v : Byte) : Byte :=
  match c.mbc with
  | .mbc2 _ => (Config.openBus &&& 0xF0#8) ||| v
  | _ => v

/-- A byte as CRAM stores it: MBC2 keeps the low nibble (R85). -/
def Cartridge.cramStored (c : Cartridge) (v : Byte) : Byte :=
  match c.mbc with
  | .mbc2 _ => v &&& 0x0F#8
  | _ => v

/-- A read of the window 0xA000-0xBFFF (R79, R82, R85, R88, R93, R96). -/
def cartRamRead (c : Cartridge) (a : Addr) : Byte :=
  match c.cramOffset a with
  | some off => c.cramView (c.cram.readZ off)
  | none =>
    match c.rtcSelected with
    | some (r, reg) => rtcRead r.latched reg
    | none => Config.openBus

/-- `CartRead(a)` of a loaded cartridge (R77), but for HuC1's infrared mode (R97), which the bus
access raises as a fault. -/
def cartRead (c : Cartridge) (a : Addr) : Byte :=
  if a.toNat ≤ 0x3FFF then romByte c.rom c.mbc.lowBank a
  else if a.toNat ≤ 0x7FFF then romByte c.rom c.mbc.highBank a
  else cartRamRead c a

/-! ## Writes -/

/-- `(v & 0x0F) == 0x0A`, the RAM-enable test of every controller but MBC5 (D19). -/
def ramEnableNibble (v : Byte) : Bool := v &&& 0x0F#8 == 0x0A#8

/-- MBC1's register writes (R80). -/
def mbc1Write (r : Mbc1) (a : Addr) (v : Byte) : Mbc1 :=
  if a.toNat ≤ 0x1FFF then { r with ramg := ramEnableNibble v }
  else if a.toNat ≤ 0x3FFF then
    { r with bank1 := if v.setWidth 5 = 0#5 then 1#5 else v.setWidth 5 }
  else if a.toNat ≤ 0x5FFF then { r with bank2 := v.setWidth 2 }
  else { r with bmode := bitOf v 0 }

/-- MBC2's register writes, decoded by address bit 8 (R83, C3). -/
def mbc2Write (r : Mbc2) (a : Addr) (v : Byte) : Mbc2 :=
  if a.toNat ≤ 0x3FFF then
    if a.getLsbD 8 then { r with romb := if v.setWidth 4 = 0#4 then 1#4 else v.setWidth 4 }
    else { r with ramg := ramEnableNibble v }
  else r

/-- MBC3's register writes (R86). -/
def mbc3Write (hasRtc : Bool) (r : Mbc3) (a : Addr) (v : Byte) : Mbc3 :=
  if a.toNat ≤ 0x1FFF then { r with ramg := ramEnableNibble v }
  else if a.toNat ≤ 0x3FFF then
    { r with romb := if v.setWidth 7 = 0#7 then 1#7 else v.setWidth 7 }
  else if a.toNat ≤ 0x5FFF then { r with sel := v }
  else
    { r with
      latched := if hasRtc ∧ r.latchLast = some 0x00#8 ∧ v = 0x01#8 then r.live else r.latched
      latchLast := some v }

/-- MBC5's register writes (R91). -/
def mbc5Write (rumble : Bool) (r : Mbc5) (a : Addr) (v : Byte) : Mbc5 :=
  if a.toNat ≤ 0x1FFF then { r with ramg := v == 0x0A#8 }
  else if a.toNat ≤ 0x2FFF then { r with romb := r.romb.extractLsb' 8 1 ++ v }
  else if a.toNat ≤ 0x3FFF then { r with romb := v.extractLsb' 0 1 ++ r.romb.extractLsb' 0 8 }
  else if a.toNat ≤ 0x5FFF then
    { r with ramb := (if rumble then v &&& 0x07#8 else v &&& 0x0F#8).setWidth 4 }
  else r

/-- HuC1's register writes (R94). -/
def huc1Write (r : Huc1) (a : Addr) (v : Byte) : Huc1 :=
  if a.toNat ≤ 0x1FFF then { r with irmode := v == 0x0E#8, ramg := ramEnableNibble v }
  else if a.toNat ≤ 0x3FFF then { r with romb := v.setWidth 6 }
  else if a.toNat ≤ 0x5FFF then { r with ramb := v.setWidth 2 }
  else r

/-- A controller register write at 0x0000-0x7FFF (R77; "Fixed cartridges treat all bank-select
writes as no-ops", R79). -/
def mbcWrite (features : Features) (m : Mbc) (a : Addr) (v : Byte) : Mbc :=
  match m with
  | .fixed => .fixed
  | .mbc1 r => .mbc1 (mbc1Write r a v)
  | .mbc2 r => .mbc2 (mbc2Write r a v)
  | .mbc3 r => .mbc3 (mbc3Write features.rtc r a v)
  | .mbc5 r => .mbc5 (mbc5Write features.rumble r a v)
  | .huc1 r => .huc1 (huc1Write r a v)

/-- A write of the window 0xA000-0xBFFF (R79, R82, R85, R88, R93, R96). -/
def cartRamWrite (c : Cartridge) (a : Addr) (v : Byte) : Cartridge :=
  match c.cramOffset a with
  | some off => { c with cram := c.cram.writeZ off (c.cramStored v) }
  | none =>
    match c.rtcSelected with
    | some (r, reg) => { c with mbc := .mbc3 { r with live := rtcWrite r.live reg v } }
    | none => c

/-- `CartWrite(a, v)` of a loaded cartridge (R77), but for HuC1's infrared mode (R97). -/
def cartWrite (c : Cartridge) (a : Addr) (v : Byte) : Cartridge :=
  if a.toNat ≤ 0x7FFF then { c with mbc := mbcWrite c.features c.mbc a v } else cartRamWrite c a v

/-- The controller is a HuC1 in infrared mode (R97). -/
def Cartridge.infrared (c : Cartridge) : Bool :=
  match c.mbc with
  | .huc1 r => r.irmode
  | _ => false

/-- `rtc_tick` on the cartridge: the LIVE set advances, where the cartridge has an RTC (R90, R253). -/
def cartRtcTick (c : Cartridge) : Cartridge :=
  match c.mbc with
  | .mbc3 r => if c.features.rtc then { c with mbc := .mbc3 { r with live := rtcAdvance r.live } } else c
  | _ => c

/-! ## Load and reset -/

/-- What the host hands over with a cartridge: its RAM image of `P_INIT_MEM` and, for an RTC, the two
register sets (R49; log 15). -/
structure CartInit where
  cram : List Byte
  live : RtcSet
  latched : RtcSet
  deriving DecidableEq, Repr

/-- Nothing handed over: cartridge RAM as unlisted (log 3), the clocks at zero (log 15). -/
def CartInit.none : CartInit := { cram := [], live := RtcSet.zero, latched := RtcSet.zero }

/-- The reset value of each controller's registers (R49). -/
def mbcReset (init : CartInit) (kind : ControllerKind) : Mbc :=
  match kind with
  | .fixed => .fixed
  | .mbc1 => .mbc1 { ramg := false, bank1 := 1#5, bank2 := 0#2, bmode := false }
  | .mbc2 => .mbc2 { ramg := false, romb := 1#4 }
  | .mbc3 =>
    .mbc3 { ramg := false, romb := 1#7, sel := 0#8, latchLast := Option.none, live := init.live,
            latched := init.latched }
  | .mbc5 => .mbc5 { ramg := false, romb := 1#9, ramb := 0#4 }
  | .huc1 => .huc1 { ramg := false, irmode := false, romb := 1#6, ramb := 0#2 }

/-- The kind of a controller. -/
def Mbc.kind (m : Mbc) : ControllerKind :=
  match m with
  | .fixed => .fixed
  | .mbc1 _ => .mbc1
  | .mbc2 _ => .mbc2
  | .mbc3 _ => .mbc3
  | .mbc5 _ => .mbc5
  | .huc1 _ => .huc1

/-- A cartridge with its MBC state at reset and CRAM from the image (R49, R255): as many bytes as
there is RAM, as the controller stores them. -/
def cartReset (init : CartInit) (c : Cartridge) : Cartridge :=
  let c := { c with mbc := mbcReset init c.mbc.kind }
  { c with cram := writeBytes zeroByte [] 0 ((init.cram.take c.cramSize).map c.cramStored) }

/-- The controller and features of a type byte (R72); none for an unsupported one (R73). -/
def cartType (t : Byte) : Option (ControllerKind × Features) :=
  let feats (ram battery rtc rumble : Bool) : Features :=
    { ram := ram, battery := battery, rtc := rtc, rumble := rumble }
  if t = 0x00#8 then some (.fixed, feats false false false false)
  else if t = 0x01#8 then some (.mbc1, feats false false false false)
  else if t = 0x02#8 then some (.mbc1, feats true false false false)
  else if t = 0x03#8 then some (.mbc1, feats true true false false)
  else if t = 0x05#8 then some (.mbc2, feats true false false false)
  else if t = 0x06#8 then some (.mbc2, feats true true false false)
  else if t = 0x0F#8 then some (.mbc3, feats false true true false)
  else if t = 0x10#8 then some (.mbc3, feats true true true false)
  else if t = 0x11#8 then some (.mbc3, feats false false false false)
  else if t = 0x12#8 then some (.mbc3, feats true false false false)
  else if t = 0x13#8 then some (.mbc3, feats true true false false)
  else if t = 0x19#8 then some (.mbc5, feats false false false false)
  else if t = 0x1A#8 then some (.mbc5, feats true false false false)
  else if t = 0x1B#8 then some (.mbc5, feats true true false false)
  else if t = 0x1C#8 then some (.mbc5, feats false false false true)
  else if t = 0x1D#8 then some (.mbc5, feats true false false true)
  else if t = 0x1E#8 then some (.mbc5, feats true true false true)
  else if t = 0xFF#8 then some (.huc1, feats true true false false)
  else Option.none

/-- Why an image is no cartridge (R70, R73). -/
inductive ParsingError where
  /-- `InvalidHeaderLength`: shorter than 0x150 bytes (R70). -/
  | invalidHeaderLength (length : Nat)
  /-- `UnsupportedCartridgeType`: the type byte selects no controller (R73). -/
  | unsupportedCartridgeType (type : Byte)
  deriving DecidableEq, Repr

/-- The header of an image (R71). -/
def readHeader (rom : RomImage) : Header :=
  { typeByte := rom.bytes.readZ 0x147
    romSizeCode := rom.bytes.readZ 0x148
    ramSizeCode := rom.bytes.readZ 0x149
    destinationCode := rom.bytes.readZ 0x14A
    headerChecksum := rom.bytes.readZ 0x14D
    globalChecksum0 := rom.bytes.readZ 0x14E
    globalChecksum1 := rom.bytes.readZ 0x14F }

/-- `try_parse(bytes)` (R70), on a ROM image. -/
def tryParse (init : CartInit) (rom : RomImage) : Except ParsingError Cartridge :=
  if rom.size < 0x150 then .error (.invalidHeaderLength rom.size)
  else
    let header := readHeader rom
    match cartType header.typeByte with
    | Option.none => .error (.unsupportedCartridgeType header.typeByte)
    | some (kind, features) =>
      .ok (cartReset init
        { rom := rom, header := header, features := features, mbc := mbcReset init kind, cram := [] })

end Sys2Proof.Machine
end

