-- ==== Sys2Proof/Machine/Ops.lean ====
section
/-! DEFINITION. The named operations over registers and the bus, the cost of a step, the stack, and
interrupt entry and return (R14, R15, R22, R56 to R65, R143, R144, R238 to R242). -/

namespace Sys2Proof.Machine

/-! ## Cost and register pairs -/

/-- Add a step's cost to CYCLES (R33, R230). -/
def State.tick (cost : Nat) (s : State) : State := { s with cycles := s.cycles + cost }

/-- `x[F] <- v` stores `v & 0xF0` (R27). -/
def State.setF (v : Byte) (s : State) : State := { s with f := v &&& 0xF0#8 }

/-- `x[BC]` (R20). -/
def State.bc (s : State) : Addr := pack s.c s.b

/-- `x[DE]` (R20). -/
def State.de (s : State) : Addr := pack s.e s.d

/-- `x[HL]` (R20). -/
def State.hl (s : State) : Addr := pack s.l s.h

/-- `x[AF]` (R20). -/
def State.af (s : State) : Addr := pack s.f s.a

/-- `x[BC] <- w` (R20). -/
def State.setBc (w : Addr) (s : State) : State := { s with c := lowByte w, b := highByte w }

/-- `x[DE] <- w` (R20). -/
def State.setDe (w : Addr) (s : State) : State := { s with e := lowByte w, d := highByte w }

/-- `x[HL] <- w` (R20). -/
def State.setHl (w : Addr) (s : State) : State := { s with l := lowByte w, h := highByte w }

/-- `x[AF] <- w`, F under its mask (R20, R27). -/
def State.setAf (w : Addr) (s : State) : State := { s.setF (lowByte w) with a := highByte w }

/-! ## The bus -/

/-- What answers at an address, the arms of the address map (R56, R57); the echo window answers with
the WRAM byte 0x2000 below (R59). -/
def backing (addr : Addr) : Backing :=
  let n := addr.toNat
  if n ≤ 0x7FFF then .cart
  else if n ≤ 0x9FFF then .store n
  else if n ≤ 0xBFFF then .cart
  else if n ≤ 0xDFFF then .store n
  else if n ≤ 0xFDFF then .store (n - 0x2000)
  else if n ≤ 0xFE9F then .store n
  else if n ≤ 0xFEFF then .unusable
  else if n ≤ 0xFFFE then .store n
  else .ie

/-- The boot ROM answers reads at this address (R63). -/
def State.bootReads (s : State) (addr : Addr) : Bool := s.bootMapped && decide (addr.toNat ≤ 0x00FF)

/-- `BusRead(a)` (R57; with no cartridge, open bus, R62). -/
def State.busRead (s : State) (addr : Addr) : Byte :=
  if s.bootReads addr then Config.bootRom (lowByte addr)
  else
    match backing addr with
    | .cart =>
      match s.cart with
      | none => Config.openBus
      | some cart => cartRead cart addr
    | .store key => s.mem.read key
    | .unusable => Config.unusableRead
    | .ie => s.ie

/-- A write of a value other than 0 to 0xFF50 unmaps the boot ROM (R58, R63). -/
def State.bootAfterWrite (s : State) (addr : Addr) (v : Byte) : Bool :=
  if addr = 0xFF50#16 ∧ v ≠ 0#8 then false else s.bootMapped

/-- `BusWrite(a, v)` (R58; with no cartridge, no effect, R62). -/
def State.busWrite (s : State) (addr : Addr) (v : Byte) : State :=
  match backing addr with
  | .cart => { s with cart := s.cart.map (fun cart => cartWrite cart addr v) }
  | .store key => { s with mem := s.mem.write key v, bootMapped := s.bootAfterWrite addr v }
  | .unusable => s
  | .ie => { s with ie := v }

/-- The access raises F_HUC1_IR: the window 0xA000-0xBFFF of a HuC1 in infrared mode (R97). -/
def State.irBlocked (s : State) (addr : Addr) : Bool :=
  match s.cart with
  | none => false
  | some cart => decide (0xA000 ≤ addr.toNat ∧ addr.toNat ≤ 0xBFFF) && cart.infrared

/-- `MemRead(a, 1)` inside an instruction: the byte, or the model fault (R15, R97). -/
def readByte (s : State) (addr : Addr) (k : Byte → Result) : Result :=
  if s.irBlocked addr then .fault .huc1Ir else k (s.busRead addr)

/-- `MemWrite(a, 1, v)` inside an instruction: the state after, or the model fault (R15, R97). -/
def writeByte (s : State) (addr : Addr) (v : Byte) (k : State → Result) : Result :=
  if s.irBlocked addr then .fault .huc1Ir else k (s.busWrite addr v)

/-- `MemWrite(a, 2, v)`: the low byte, then the high byte at the next address (R15). -/
def writeWord (s : State) (addr : Addr) (w : Addr) (k : State → Result) : Result :=
  writeByte s addr (lowByte w) (fun s => writeByte s (addr + 1#16) (highByte w) k)

/-! ## The stack -/

/-- `Push(w)`: SP down by 2, the high byte first (R143). -/
def push (w : Addr) (s : State) (k : State → Result) : Result :=
  let sp := s.sp - 2#16
  writeByte { s with sp := sp } (sp + 1#16) (highByte w) (fun s =>
    writeByte s sp (lowByte w) k)

/-- `Pop()`: the low byte, the high byte, SP up by 2 (R144). -/
def pop (s : State) (k : Addr → State → Result) : Result :=
  readByte s s.sp (fun lo =>
    readByte s (s.sp + 1#16) (fun hi =>
      k (pack lo hi) { s with sp := s.sp + 2#16 }))

/-! ## Interrupts -/

/-- The address of IF (R238). -/
def ifKey : Nat := 0xFF0F

/-- IF, the I/O byte 0xFF0F (R238). -/
def State.ifReg (s : State) : Byte := s.mem.read ifKey

/-- `pend = IE & IF & 0x1F` (R239). -/
def State.pend (s : State) : Byte := s.ie &&& s.ifReg &&& 0x1F#8

/-- The source to dispatch: the lowest set bit of `pend` (R240). -/
def lowestSource (pend : Byte) : Nat :=
  if bitOf pend 0 then 0
  else if bitOf pend 1 then 1
  else if bitOf pend 2 then 2
  else if bitOf pend 3 then 3
  else 4

/-- `IF[n] <- 0` (R241). -/
def State.clearRequest (n : Nat) (s : State) : State :=
  { s with mem := s.mem.write ifKey (s.ifReg &&& ~~~(1#8 <<< n)) }

/-- The vector of source n, `0x0040 + 8 * n` (R237, R241). -/
def vectorOf (n : Nat) : Addr := BitVec.ofNat 16 (0x0040 + 8 * n)

/-- `Dispatch()`, interrupt entry (R241): clears the request and both enables, saves PC on the stack
and goes to the vector. It saves nothing else. -/
def dispatch (s : State) : Result :=
  let n := lowestSource s.pend
  let cleared := { s.clearRequest n with ime := false, imePending := false }
  if s.sp = 0x0000#16 then .fault .iePush
  else push s.pc cleared (fun t => .next (State.tick 20 { t with pc := vectorOf n }))

/-- Return from an interrupt (R223, R242): `PC <- Pop(); IME <- 1; IME_PENDING <- 0`, nothing else. -/
def interruptReturn (s : State) (k : State → Result) : Result :=
  pop s (fun w s => k { s with pc := w, ime := true, imePending := false })

end Sys2Proof.Machine
end

