-- ==== Sys2Proof/Syntax.lean ====
section
/-! DEFINITION. The syntax of the CORE's instructions: the operand names of 30_encoding.md, the
forms of the instruction rules R124 to R229, and `Instr`, one constructor per row of
spec/opcode_table.json. -/

namespace Sys2Proof

/-- The seven named registers an 8-bit operand field can select (R105); code 6, `(HL)`, has forms of
its own. -/
inductive Reg8 where
  | b | c | d | e | h | l | a
  deriving DecidableEq, Repr

/-- The 16-bit operands of the field `dd` (R106). -/
inductive Pair where
  | bc | de | hl | sp
  deriving DecidableEq, Repr

/-- The 16-bit operands of the field `qq` (R107). -/
inductive StackPair where
  | bc | de | hl | af
  deriving DecidableEq, Repr

/-- The conditions of the field `cc` (R108). -/
inductive Cond where
  | nz | z | nc | c
  deriving DecidableEq, Repr

/-- The eight accumulator operations of the field `alu` (R109). -/
inductive AluOp where
  | add | adc | sub | sbc | and | xor | or | cp
  deriving DecidableEq, Repr

/-- The eight rotates and shifts of the 0xCB map (R116, x = 0). -/
inductive RotOp where
  | rlc | rrc | rl | rr | sla | sra | swap | srl
  deriving DecidableEq, Repr

/-- The instructions behind the prefix 0xCB (R116), by the rule that gives them: R191 to R212. -/
inductive CbForm where
  | rotReg (op : RotOp) (r : Reg8)
  | rotHl (op : RotOp)
  | bitReg (n : Fin 8) (r : Reg8)
  | bitHl (n : Fin 8)
  | resReg (n : Fin 8) (r : Reg8)
  | resHl (n : Fin 8)
  | setReg (n : Fin 8) (r : Reg8)
  | setHl (n : Fin 8)
  deriving DecidableEq, Repr

/-- An instruction by the rule that gives its meaning (R124 to R229): many rows of the table are one
form at different operand fields. -/
inductive Form where
  /-- R124. -/
  | ldRegReg (dst src : Reg8)
  /-- R125. -/
  | ldRegImm (dst : Reg8) (n : Byte)
  /-- R126. -/
  | ldRegHl (dst : Reg8)
  /-- R127. -/
  | ldHlReg (src : Reg8)
  /-- R128. -/
  | ldHlImm (n : Byte)
  /-- R129. -/
  | ldABc
  /-- R130. -/
  | ldADe
  /-- R131. -/
  | ldBcA
  /-- R132. -/
  | ldDeA
  /-- R133. -/
  | ldHlIncA
  /-- R134. -/
  | ldHlDecA
  /-- R135. -/
  | ldAHlInc
  /-- R136. -/
  | ldAHlDec
  /-- R137. -/
  | ldAAbs (n : Addr)
  /-- R138. -/
  | ldAbsA (n : Addr)
  /-- R139. -/
  | ldAHigh (n : Byte)
  /-- R140. -/
  | ldHighA (n : Byte)
  /-- R141. -/
  | ldAHighC
  /-- R142. -/
  | ldHighCA
  /-- R145. -/
  | ldPairImm (p : Pair) (n : Addr)
  /-- R146. -/
  | ldAbsSp (n : Addr)
  /-- R147. -/
  | ldSpHl
  /-- R148. -/
  | ldHlSpOff (n : Byte)
  /-- R149. -/
  | push (q : StackPair)
  /-- R150. -/
  | pop (q : StackPair)
  /-- R151, R154, R157, R160, R163, R166, R169, R172. -/
  | aluReg (op : AluOp) (r : Reg8)
  /-- R152, R155, R158, R161, R164, R167, R170, R173. -/
  | aluHl (op : AluOp)
  /-- R153, R156, R159, R162, R165, R168, R171, R174. -/
  | aluImm (op : AluOp) (n : Byte)
  /-- R175. -/
  | incReg (r : Reg8)
  /-- R176. -/
  | incAtHl
  /-- R177. -/
  | decReg (r : Reg8)
  /-- R178. -/
  | decAtHl
  /-- R179. -/
  | daa
  /-- R180. -/
  | cpl
  /-- R181. -/
  | scf
  /-- R182. -/
  | ccf
  /-- R183. -/
  | addHl (p : Pair)
  /-- R184. -/
  | incPair (p : Pair)
  /-- R185. -/
  | decPair (p : Pair)
  /-- R186. -/
  | addSp (n : Byte)
  /-- R187. -/
  | rlca
  /-- R188. -/
  | rrca
  /-- R189. -/
  | rla
  /-- R190. -/
  | rra
  /-- R191 to R212, behind the prefix 0xCB. -/
  | cb (f : CbForm)
  /-- R213. -/
  | jp (n : Addr)
  /-- R214. -/
  | jpCond (cc : Cond) (n : Addr)
  /-- R215. -/
  | jpHl
  /-- R216. -/
  | jr (n : Byte)
  /-- R217. -/
  | jrCond (cc : Cond) (n : Byte)
  /-- R218. -/
  | call (n : Addr)
  /-- R219. -/
  | callCond (cc : Cond) (n : Addr)
  /-- R220. -/
  | rst (t : Fin 8)
  /-- R221. -/
  | ret
  /-- R222. -/
  | retCond (cc : Cond)
  /-- R223. -/
  | reti
  /-- R224. -/
  | nop
  /-- R225. -/
  | halt
  /-- R226; `n` is the second byte, read and ignored (R120). -/
  | stop (n : Byte)
  /-- R227. -/
  | di
  /-- R228. -/
  | ei
  /-- R229; `b` is one of the eleven undefined bytes (R117). -/
  | undefined (b : Byte)
  deriving DecidableEq, Repr

/-- One constructor per row of spec/opcode_table.json, those with
operand bytes first, then the others, each in the table's order. The argument is the row's operand: `n8`, `e8` and `a8` are
the byte after the opcode, `n16` the two bytes after it, low byte first (R110). `prefixCb` is the row
PREFIX CB, whose argument is the byte that selects the prefixed row (R116); it is not well formed as
an instruction of its own, since its bytes are that row's. -/
inductive Instr where
  -- the rows with an operand byte or word (R103 formats F2, F2S, F3) and the prefix row
  | ldBcN16 (n16 : Addr)
  | ldBN8 (n8 : Byte)
  | ldAtN16Sp (n16 : Addr)
  | ldCN8 (n8 : Byte)
  | stop (n8 : Byte)
  | ldDeN16 (n16 : Addr)
  | ldDN8 (n8 : Byte)
  | jrE8 (e8 : Byte)
  | ldEN8 (n8 : Byte)
  | jrNzE8 (e8 : Byte)
  | ldHlN16 (n16 : Addr)
  | ldHN8 (n8 : Byte)
  | jrZE8 (e8 : Byte)
  | ldLN8 (n8 : Byte)
  | jrNcE8 (e8 : Byte)
  | ldSpN16 (n16 : Addr)
  | ldAtHlN8 (n8 : Byte)
  | jrCE8 (e8 : Byte)
  | ldAN8 (n8 : Byte)
  | jpNzN16 (n16 : Addr)
  | jpN16 (n16 : Addr)
  | callNzN16 (n16 : Addr)
  | addAN8 (n8 : Byte)
  | jpZN16 (n16 : Addr)
  | prefixCb (cbop : Byte)
  | callZN16 (n16 : Addr)
  | callN16 (n16 : Addr)
  | adcAN8 (n8 : Byte)
  | jpNcN16 (n16 : Addr)
  | callNcN16 (n16 : Addr)
  | subN8 (n8 : Byte)
  | jpCN16 (n16 : Addr)
  | callCN16 (n16 : Addr)
  | sbcAN8 (n8 : Byte)
  | ldhAtA8A (a8 : Byte)
  | andN8 (n8 : Byte)
  | addSpE8 (e8 : Byte)
  | ldAtN16A (n16 : Addr)
  | xorN8 (n8 : Byte)
  | ldhAAtA8 (a8 : Byte)
  | orN8 (n8 : Byte)
  | ldHlSpE8 (e8 : Byte)
  | ldAAtN16 (n16 : Addr)
  | cpN8 (n8 : Byte)
  -- the operand-free rows 0x00 to 0x0F
  | nop
  | ldAtBcA
  | incBc
  | incB
  | decB
  | rlca
  | addHlBc
  | ldAAtBc
  | decBc
  | incC
  | decC
  | rrca
  -- the operand-free rows 0x10 to 0x1F
  | ldAtDeA
  | incDe
  | incD
  | decD
  | rla
  | addHlDe
  | ldAAtDe
  | decDe
  | incE
  | decE
  | rra
  -- the operand-free rows 0x20 to 0x2F
  | ldAtHlIncA
  | incHl
  | incH
  | decH
  | daa
  | addHlHl
  | ldAAtHlInc
  | decHl
  | incL
  | decL
  | cpl
  -- the operand-free rows 0x30 to 0x3F
  | ldAtHlDecA
  | incSp
  | incAtHl
  | decAtHl
  | scf
  | addHlSp
  | ldAAtHlDec
  | decSp
  | incA
  | decA
  | ccf
  -- the operand-free rows 0x40 to 0x4F
  | ldBB
  | ldBC
  | ldBD
  | ldBE
  | ldBH
  | ldBL
  | ldBAtHl
  | ldBA
  | ldCB
  | ldCC
  | ldCD
  | ldCE
  | ldCH
  | ldCL
  | ldCAtHl
  | ldCA
  -- the operand-free rows 0x50 to 0x5F
  | ldDB
  | ldDC
  | ldDD
  | ldDE
  | ldDH
  | ldDL
  | ldDAtHl
  | ldDA
  | ldEB
  | ldEC
  | ldED
  | ldEE
  | ldEH
  | ldEL
  | ldEAtHl
  | ldEA
  -- the operand-free rows 0x60 to 0x6F
  | ldHB
  | ldHC
  | ldHD
  | ldHE
  | ldHH
  | ldHL
  | ldHAtHl
  | ldHA
  | ldLB
  | ldLC
  | ldLD
  | ldLE
  | ldLH
  | ldLL
  | ldLAtHl
  | ldLA
  -- the operand-free rows 0x70 to 0x7F
  | ldAtHlB
  | ldAtHlC
  | ldAtHlD
  | ldAtHlE
  | ldAtHlH
  | ldAtHlL
  | halt
  | ldAtHlA
  | ldAB
  | ldAC
  | ldAD
  | ldAE
  | ldAH
  | ldAL
  | ldAAtHl
  | ldAA
  -- the operand-free rows 0x80 to 0x8F
  | addAB
  | addAC
  | addAD
  | addAE
  | addAH
  | addAL
  | addAAtHl
  | addAA
  | adcAB
  | adcAC
  | adcAD
  | adcAE
  | adcAH
  | adcAL
  | adcAAtHl
  | adcAA
  -- the operand-free rows 0x90 to 0x9F
  | subB
  | subC
  | subD
  | subE
  | subH
  | subL
  | subAtHl
  | subA
  | sbcAB
  | sbcAC
  | sbcAD
  | sbcAE
  | sbcAH
  | sbcAL
  | sbcAAtHl
  | sbcAA
  -- the operand-free rows 0xA0 to 0xAF
  | andB
  | andC
  | andD
  | andE
  | andH
  | andL
  | andAtHl
  | andA
  | xorB
  | xorC
  | xorD
  | xorE
  | xorH
  | xorL
  | xorAtHl
  | xorA
  -- the operand-free rows 0xB0 to 0xBF
  | orB
  | orC
  | orD
  | orE
  | orH
  | orL
  | orAtHl
  | orA
  | cpB
  | cpC
  | cpD
  | cpE
  | cpH
  | cpL
  | cpAtHl
  | cpA
  -- the operand-free rows 0xC0 to 0xCF
  | retNz
  | popBc
  | pushBc
  | rst00
  | retZ
  | ret
  | rst08
  -- the operand-free rows 0xD0 to 0xDF
  | retNc
  | popDe
  | undefD3
  | pushDe
  | rst10
  | retC
  | reti
  | undefDB
  | undefDD
  | rst18
  -- the operand-free rows 0xE0 to 0xEF
  | popHl
  | ldAtCA
  | undefE3
  | undefE4
  | pushHl
  | rst20
  | jpHl
  | undefEB
  | undefEC
  | undefED
  | rst28
  -- the operand-free rows 0xF0 to 0xFF
  | popAf
  | ldAAtC
  | di
  | undefF4
  | pushAf
  | rst30
  | ldSpHl
  | ei
  | undefFC
  | undefFD
  | rst38
  -- the operand-free rows 0xCB 0x00 to 0x0F
  | rlcB
  | rlcC
  | rlcD
  | rlcE
  | rlcH
  | rlcL
  | rlcAtHl
  | rlcA
  | rrcB
  | rrcC
  | rrcD
  | rrcE
  | rrcH
  | rrcL
  | rrcAtHl
  | rrcA
  -- the operand-free rows 0xCB 0x10 to 0x1F
  | rlB
  | rlC
  | rlD
  | rlE
  | rlH
  | rlL
  | rlAtHl
  | rlA
  | rrB
  | rrC
  | rrD
  | rrE
  | rrH
  | rrL
  | rrAtHl
  | rrA
  -- the operand-free rows 0xCB 0x20 to 0x2F
  | slaB
  | slaC
  | slaD
  | slaE
  | slaH
  | slaL
  | slaAtHl
  | slaA
  | sraB
  | sraC
  | sraD
  | sraE
  | sraH
  | sraL
  | sraAtHl
  | sraA
  -- the operand-free rows 0xCB 0x30 to 0x3F
  | swapB
  | swapC
  | swapD
  | swapE
  | swapH
  | swapL
  | swapAtHl
  | swapA
  | srlB
  | srlC
  | srlD
  | srlE
  | srlH
  | srlL
  | srlAtHl
  | srlA
  -- the operand-free rows 0xCB 0x40 to 0x4F
  | bit0B
  | bit0C
  | bit0D
  | bit0E
  | bit0H
  | bit0L
  | bit0AtHl
  | bit0A
  | bit1B
  | bit1C
  | bit1D
  | bit1E
  | bit1H
  | bit1L
  | bit1AtHl
  | bit1A
  -- the operand-free rows 0xCB 0x50 to 0x5F
  | bit2B
  | bit2C
  | bit2D
  | bit2E
  | bit2H
  | bit2L
  | bit2AtHl
  | bit2A
  | bit3B
  | bit3C
  | bit3D
  | bit3E
  | bit3H
  | bit3L
  | bit3AtHl
  | bit3A
  -- the operand-free rows 0xCB 0x60 to 0x6F
  | bit4B
  | bit4C
  | bit4D
  | bit4E
  | bit4H
  | bit4L
  | bit4AtHl
  | bit4A
  | bit5B
  | bit5C
  | bit5D
  | bit5E
  | bit5H
  | bit5L
  | bit5AtHl
  | bit5A
  -- the operand-free rows 0xCB 0x70 to 0x7F
  | bit6B
  | bit6C
  | bit6D
  | bit6E
  | bit6H
  | bit6L
  | bit6AtHl
  | bit6A
  | bit7B
  | bit7C
  | bit7D
  | bit7E
  | bit7H
  | bit7L
  | bit7AtHl
  | bit7A
  -- the operand-free rows 0xCB 0x80 to 0x8F
  | res0B
  | res0C
  | res0D
  | res0E
  | res0H
  | res0L
  | res0AtHl
  | res0A
  | res1B
  | res1C
  | res1D
  | res1E
  | res1H
  | res1L
  | res1AtHl
  | res1A
  -- the operand-free rows 0xCB 0x90 to 0x9F
  | res2B
  | res2C
  | res2D
  | res2E
  | res2H
  | res2L
  | res2AtHl
  | res2A
  | res3B
  | res3C
  | res3D
  | res3E
  | res3H
  | res3L
  | res3AtHl
  | res3A
  -- the operand-free rows 0xCB 0xA0 to 0xAF
  | res4B
  | res4C
  | res4D
  | res4E
  | res4H
  | res4L
  | res4AtHl
  | res4A
  | res5B
  | res5C
  | res5D
  | res5E
  | res5H
  | res5L
  | res5AtHl
  | res5A
  -- the operand-free rows 0xCB 0xB0 to 0xBF
  | res6B
  | res6C
  | res6D
  | res6E
  | res6H
  | res6L
  | res6AtHl
  | res6A
  | res7B
  | res7C
  | res7D
  | res7E
  | res7H
  | res7L
  | res7AtHl
  | res7A
  -- the operand-free rows 0xCB 0xC0 to 0xCF
  | set0B
  | set0C
  | set0D
  | set0E
  | set0H
  | set0L
  | set0AtHl
  | set0A
  | set1B
  | set1C
  | set1D
  | set1E
  | set1H
  | set1L
  | set1AtHl
  | set1A
  -- the operand-free rows 0xCB 0xD0 to 0xDF
  | set2B
  | set2C
  | set2D
  | set2E
  | set2H
  | set2L
  | set2AtHl
  | set2A
  | set3B
  | set3C
  | set3D
  | set3E
  | set3H
  | set3L
  | set3AtHl
  | set3A
  -- the operand-free rows 0xCB 0xE0 to 0xEF
  | set4B
  | set4C
  | set4D
  | set4E
  | set4H
  | set4L
  | set4AtHl
  | set4A
  | set5B
  | set5C
  | set5D
  | set5E
  | set5H
  | set5L
  | set5AtHl
  | set5A
  -- the operand-free rows 0xCB 0xF0 to 0xFF
  | set6B
  | set6C
  | set6D
  | set6E
  | set6H
  | set6L
  | set6AtHl
  | set6A
  | set7B
  | set7C
  | set7D
  | set7E
  | set7H
  | set7L
  | set7AtHl
  | set7A
  deriving DecidableEq, Repr

end Sys2Proof
end

