-- ==== Sys2Proof/Machine/Flags.lean ====
section
/-! DEFINITION. The flags of F and every flag computation of the instruction rules (R26 to R28, R148,
R151 to R206). -/

namespace Sys2Proof.Machine

/-! ## Reading and writing flags by name (R26, R28) -/

/-- Z, bit 7 of F. -/
def State.flagZ (s : State) : Bool := bitOf s.f 7

/-- N (AddSub), bit 6 of F. -/
def State.flagN (s : State) : Bool := bitOf s.f 6

/-- H (HalfCarry), bit 5 of F. -/
def State.flagH (s : State) : Bool := bitOf s.f 5

/-- C (Carry), bit 4 of F. -/
def State.flagC (s : State) : Bool := bitOf s.f 4

/-- F with the four flags given and its low nibble zero (R26, R27). -/
def packFlags (z n h c : Bool) : Byte :=
  BitVec.ofBool z ++ BitVec.ofBool n ++ BitVec.ofBool h ++ BitVec.ofBool c ++ 0#4

/-- Write the four flags. An instruction that leaves a flag unchanged writes back the flag it had. -/
def State.writeFlags (z n h c : Bool) (s : State) : State := { s with f := packFlags z n h c }

/-! ## 8-bit arithmetic and logic (R151 to R182) -/

/-- An 8-bit result and the four flags. -/
structure AluOut where
  val : Byte
  z : Bool
  n : Bool
  h : Bool
  c : Bool
  deriving DecidableEq, Repr

/-- ADD and ADC: the sum with the carry-in, H the carry out of bit 3, C out of bit 7 (R151, R154). -/
def addOut (a v : Byte) (carry : Bool) : AluOut :=
  let t := a.toNat + v.toNat + carryNat carry
  { val := BitVec.ofNat 8 t
    z := BitVec.ofNat 8 t == 0#8
    n := false
    h := decide (0x0F < a.toNat % 16 + v.toNat % 16 + carryNat carry)
    c := decide (0xFF < t) }

/-- SUB, SBC and CP: the difference with the borrow-in, H the borrow from bit 4, C the borrow (R157,
R160, R172). -/
def subOut (a v : Byte) (carry : Bool) : AluOut :=
  let t : Int := a.toNat - v.toNat - carryNat carry
  { val := BitVec.ofInt 8 t
    z := BitVec.ofInt 8 t == 0#8
    n := true
    h := decide (a.toNat % 16 < v.toNat % 16 + carryNat carry)
    c := decide (a.toNat < v.toNat + carryNat carry) }

/-- A logic result: Z of the result, N and C clear, H as the operation says (R163, R166, R169). -/
def logicOut (v : Byte) (h : Bool) : AluOut :=
  { val := v, z := v == 0#8, n := false, h := h, c := false }

/-- The eight accumulator operations, `a` the accumulator, `v` the operand, `carry` the C flag
before (R151 to R174). CP's `val` is not written to A. -/
def aluOut (op : AluOp) (a v : Byte) (carry : Bool) : AluOut :=
  match op with
  | .add => addOut a v false
  | .adc => addOut a v carry
  | .sub => subOut a v false
  | .sbc => subOut a v carry
  | .and => logicOut (a &&& v) true
  | .xor => logicOut (a ^^^ v) false
  | .or => logicOut (a ||| v) false
  | .cp => subOut a v false

/-- INC: H the carry out of bit 3, C kept (R175). -/
def incOut (a : Byte) (carry : Bool) : AluOut :=
  { val := a + 1#8, z := a + 1#8 == 0#8, n := false, h := a &&& 0x0F#8 == 0x0F#8, c := carry }

/-- DEC: H the borrow from bit 4, C kept (R177). -/
def decOut (a : Byte) (carry : Bool) : AluOut :=
  { val := a - 1#8, z := a - 1#8 == 0#8, n := true, h := a &&& 0x0F#8 == 0x00#8, c := carry }

/-- DAA on A and the flags N, H, C (R179). -/
def daaOut (a : Byte) (n h c : Bool) : AluOut :=
  if n then
    let adj : Byte := (if c then 0x60#8 else 0#8) ||| (if h then 0x06#8 else 0#8)
    { val := a - adj, z := a - adj == 0#8, n := n, h := false, c := c }
  else
    let high : Bool := c || decide (0x99 < a.toNat)
    let low : Bool := h || decide (0x09 < a.toNat % 16)
    let adj : Byte := (if high then 0x60#8 else 0#8) ||| (if low then 0x06#8 else 0#8)
    { val := a + adj, z := a + adj == 0#8, n := n, h := false, c := high }

/-! ## Rotates and shifts (R187 to R206) -/

/-- A shifted byte, and the bit that goes to C. -/
structure ShiftOut where
  val : Byte
  c : Bool
  deriving DecidableEq, Repr

/-- The eight rotates and shifts; `carry` is the C flag before (R191 to R206). -/
def rotOut (op : RotOp) (v : Byte) (carry : Bool) : ShiftOut :=
  match op with
  | .rlc => { val := (v <<< 1) ||| carryByte (bitOf v 7), c := bitOf v 7 }
  | .rrc => { val := (v >>> 1) ||| (carryByte (bitOf v 0) <<< 7), c := bitOf v 0 }
  | .rl => { val := (v <<< 1) ||| carryByte carry, c := bitOf v 7 }
  | .rr => { val := (v >>> 1) ||| (carryByte carry <<< 7), c := bitOf v 0 }
  | .sla => { val := v <<< 1, c := bitOf v 7 }
  | .sra => { val := (v >>> 1) ||| (v &&& 0x80#8), c := bitOf v 0 }
  | .swap => { val := (v <<< 4) ||| (v >>> 4), c := false }
  | .srl => { val := v >>> 1, c := bitOf v 0 }

/-! ## 16-bit sums (R148, R183, R186) -/

/-- H of ADD HL,rr: the carry out of bit 11 (R183, C9). -/
def addHlHalf (h v : Addr) : Bool := decide (0x0FFF < h.toNat % 0x1000 + v.toNat % 0x1000)

/-- C of ADD HL,rr: the carry out of bit 15 (R183). -/
def addHlCarry (h v : Addr) : Bool := decide (0xFFFF < h.toNat + v.toNat)

/-- H of SP + e8: the unsigned carry out of bit 3 of the low byte (R148, R186). -/
def spHalf (sp : Addr) (n : Byte) : Bool := decide (0x0F < sp.toNat % 16 + n.toNat % 16)

/-- C of SP + e8: the unsigned carry out of bit 7 of the low byte (R148, R186). -/
def spCarry (sp : Addr) (n : Byte) : Bool := decide (0xFF < sp.toNat % 256 + n.toNat)

/-! ## Conditions (R108) -/

/-- `cond(cc)` (R108). -/
def State.cond (s : State) (cc : Cond) : Bool :=
  match cc with
  | .nz => !s.flagZ
  | .z => s.flagZ
  | .nc => !s.flagC
  | .c => s.flagC

end Sys2Proof.Machine
end

