-- ==== Sys2Proof/Machine/Operands.lean ====
section
/-! DEFINITION. The operand forms: an 8-bit register, the byte at HL, a pair, a high-page address
(R105 to R107, R110). -/

namespace Sys2Proof.Machine

/-- `x[r]` (R14). -/
def State.reg (s : State) (r : Reg8) : Byte :=
  match r with
  | .b => s.b
  | .c => s.c
  | .d => s.d
  | .e => s.e
  | .h => s.h
  | .l => s.l
  | .a => s.a

/-- `x[r] <- v` (R14). -/
def State.setReg (r : Reg8) (v : Byte) (s : State) : State :=
  match r with
  | .b => { s with b := v }
  | .c => { s with c := v }
  | .d => { s with d := v }
  | .e => { s with e := v }
  | .h => { s with h := v }
  | .l => { s with l := v }
  | .a => { s with a := v }

/-- `x[dd]` (R106). -/
def State.pair (s : State) (p : Pair) : Addr :=
  match p with
  | .bc => s.bc
  | .de => s.de
  | .hl => s.hl
  | .sp => s.sp

/-- `x[dd] <- w` (R106). -/
def State.setPair (p : Pair) (w : Addr) (s : State) : State :=
  match p with
  | .bc => s.setBc w
  | .de => s.setDe w
  | .hl => s.setHl w
  | .sp => { s with sp := w }

/-- `x[qq]` (R107). -/
def State.stackPair (s : State) (q : StackPair) : Addr :=
  match q with
  | .bc => s.bc
  | .de => s.de
  | .hl => s.hl
  | .af => s.af

/-- `x[qq] <- w` (R107). -/
def State.setStackPair (q : StackPair) (w : Addr) (s : State) : State :=
  match q with
  | .bc => s.setBc w
  | .de => s.setDe w
  | .hl => s.setHl w
  | .af => s.setAf w

/-- The high-page address `0xFF00 + n8` of LDH and LD (C) (R110, R139, R141). -/
def highPage (n : Byte) : Addr := 0xFF00#16 + zext16 n

/-- Read the operand `(HL)` (R105). -/
def readHl (s : State) (k : Byte → Result) : Result := readByte s s.hl k

/-- Write the operand `(HL)` (R105). -/
def writeHl (s : State) (v : Byte) (k : State → Result) : Result := writeByte s s.hl v k

/-- Write the byte at HL back after reading it: the read, then the write (R54, R176, R192, R210). -/
def modifyHl (s : State) (f : Byte → Byte) (k : Byte → State → Result) : Result :=
  readHl s (fun v => writeHl s (f v) (fun t => k v t))

/-- Write an 8-bit result's flags (R151 to R182). -/
def State.aluFlags (o : AluOut) (s : State) : State := s.writeFlags o.z o.n o.h o.c

/-- The flags of a prefixed rotate or shift: Z of the result, N and H clear, C as stated (R191 to
R206). -/
def State.rotFlags (o : ShiftOut) (s : State) : State := s.writeFlags (o.val == 0#8) false false o.c

end Sys2Proof.Machine
end

