-- ==== Sys2Proof/Machine/Alu16.lean ====
section
/-! DEFINITION. 16-bit arithmetic (43_alu16.md, R183 to R186). -/

namespace Sys2Proof.Machine

/-- ADD HL,ss (R183): Z is kept. -/
def addHl (p : Pair) (s : State) : Result :=
  let v := s.pair p
  .next (((s.setHl (s.hl + v)).writeFlags s.flagZ false (addHlHalf s.hl v) (addHlCarry s.hl v)).tick 8)

/-- INC ss (R184): no flag. -/
def incPair (p : Pair) (s : State) : Result := .next ((s.setPair p (s.pair p + 1#16)).tick 8)

/-- DEC ss (R185): no flag. -/
def decPair (p : Pair) (s : State) : Result := .next ((s.setPair p (s.pair p - 1#16)).tick 8)

/-- INC BC (0x03, R184). -/
def execIncBc (s : State) : Result := incPair .bc s

/-- ADD HL,BC (0x09, R183). -/
def execAddHlBc (s : State) : Result := addHl .bc s

/-- DEC BC (0x0B, R185). -/
def execDecBc (s : State) : Result := decPair .bc s

/-- INC DE (0x13, R184). -/
def execIncDe (s : State) : Result := incPair .de s

/-- ADD HL,DE (0x19, R183). -/
def execAddHlDe (s : State) : Result := addHl .de s

/-- DEC DE (0x1B, R185). -/
def execDecDe (s : State) : Result := decPair .de s

/-- INC HL (0x23, R184). -/
def execIncHl (s : State) : Result := incPair .hl s

/-- ADD HL,HL (0x29, R183). -/
def execAddHlHl (s : State) : Result := addHl .hl s

/-- DEC HL (0x2B, R185). -/
def execDecHl (s : State) : Result := decPair .hl s

/-- INC SP (0x33, R184). -/
def execIncSp (s : State) : Result := incPair .sp s

/-- ADD HL,SP (0x39, R183). -/
def execAddHlSp (s : State) : Result := addHl .sp s

/-- DEC SP (0x3B, R185). -/
def execDecSp (s : State) : Result := decPair .sp s

/-- ADD SP,e8 (0xE8, R186): flags of the unsigned low-byte sum. -/
def execAddSpE8 (e8 : Byte) (s : State) : Result :=
  .next ((State.writeFlags false false (spHalf s.sp e8) (spCarry s.sp e8) { s with sp := s.sp + sext16 e8 }).tick 16)

end Sys2Proof.Machine
end

