-- ==== Sys2Proof/Machine/Alu8.lean ====
section
/-! DEFINITION. 8-bit arithmetic and logic (42_alu8.md, R151 to R182). -/

namespace Sys2Proof.Machine

/-- The state after an accumulator operation: A, but for CP, and the four flags (R151 to R174). -/
def State.aluApply (op : AluOp) (v : Byte) (s : State) : State :=
  let o := aluOut op s.a v s.flagC
  match op with
  | .cp => s.aluFlags o
  | _ => State.aluFlags o { s with a := o.val }

/-- The register form of an accumulator operation (R151, R154, R157, R160, R163, R166, R169, R172). -/
def aluReg (op : AluOp) (r : Reg8) (s : State) : Result := .next ((s.aluApply op (s.reg r)).tick 4)

/-- The (HL) form of an accumulator operation (R152, R155, R158, R161, R164, R167, R170, R173). -/
def aluHl (op : AluOp) (s : State) : Result := readHl s (fun v => .next ((s.aluApply op v).tick 8))

/-- The n8 form of an accumulator operation (R153, R156, R159, R162, R165, R168, R171, R174). -/
def aluImm (op : AluOp) (n : Byte) (s : State) : Result := .next ((s.aluApply op n).tick 8)

/-- INC r (R175). -/
def incReg (r : Reg8) (s : State) : Result :=
  let o := incOut (s.reg r) s.flagC
  .next (((s.setReg r o.val).aluFlags o).tick 4)

/-- DEC r (R177). -/
def decReg (r : Reg8) (s : State) : Result :=
  let o := decOut (s.reg r) s.flagC
  .next (((s.setReg r o.val).aluFlags o).tick 4)

/-- INC B (0x04, R175). -/
def execIncB (s : State) : Result := incReg .b s

/-- DEC B (0x05, R177). -/
def execDecB (s : State) : Result := decReg .b s

/-- INC C (0x0C, R175). -/
def execIncC (s : State) : Result := incReg .c s

/-- DEC C (0x0D, R177). -/
def execDecC (s : State) : Result := decReg .c s

/-- INC D (0x14, R175). -/
def execIncD (s : State) : Result := incReg .d s

/-- DEC D (0x15, R177). -/
def execDecD (s : State) : Result := decReg .d s

/-- INC E (0x1C, R175). -/
def execIncE (s : State) : Result := incReg .e s

/-- DEC E (0x1D, R177). -/
def execDecE (s : State) : Result := decReg .e s

/-- INC H (0x24, R175). -/
def execIncH (s : State) : Result := incReg .h s

/-- DEC H (0x25, R177). -/
def execDecH (s : State) : Result := decReg .h s

/-- DAA (0x27, R179): decimal adjust; N kept. -/
def execDaa (s : State) : Result :=
  let o := daaOut s.a s.flagN s.flagH s.flagC
  .next ((State.aluFlags o { s with a := o.val }).tick 4)

/-- INC L (0x2C, R175). -/
def execIncL (s : State) : Result := incReg .l s

/-- DEC L (0x2D, R177). -/
def execDecL (s : State) : Result := decReg .l s

/-- CPL (0x2F, R180): Z and C kept. -/
def execCpl (s : State) : Result :=
  .next ((State.writeFlags s.flagZ true true s.flagC { s with a := s.a ^^^ 0xFF#8 }).tick 4)

/-- INC (HL) (0x34, R176): C kept. -/
def execIncAtHl (s : State) : Result :=
  modifyHl s (fun v => (incOut v s.flagC).val) (fun v t => .next ((t.aluFlags (incOut v s.flagC)).tick 12))

/-- DEC (HL) (0x35, R178): C kept. -/
def execDecAtHl (s : State) : Result :=
  modifyHl s (fun v => (decOut v s.flagC).val) (fun v t => .next ((t.aluFlags (decOut v s.flagC)).tick 12))

/-- SCF (0x37, R181): Z kept. -/
def execScf (s : State) : Result :=
  .next ((s.writeFlags s.flagZ false false true).tick 4)

/-- INC A (0x3C, R175). -/
def execIncA (s : State) : Result := incReg .a s

/-- DEC A (0x3D, R177). -/
def execDecA (s : State) : Result := decReg .a s

/-- CCF (0x3F, R182): Z kept. -/
def execCcf (s : State) : Result :=
  .next ((s.writeFlags s.flagZ false false (!s.flagC)).tick 4)

/-- ADD A,B (0x80, R151). -/
def execAddAB (s : State) : Result := aluReg .add .b s

/-- ADD A,C (0x81, R151). -/
def execAddAC (s : State) : Result := aluReg .add .c s

/-- ADD A,D (0x82, R151). -/
def execAddAD (s : State) : Result := aluReg .add .d s

/-- ADD A,E (0x83, R151). -/
def execAddAE (s : State) : Result := aluReg .add .e s

/-- ADD A,H (0x84, R151). -/
def execAddAH (s : State) : Result := aluReg .add .h s

/-- ADD A,L (0x85, R151). -/
def execAddAL (s : State) : Result := aluReg .add .l s

/-- ADD A,(HL) (0x86, R152). -/
def execAddAAtHl (s : State) : Result := aluHl .add s

/-- ADD A,A (0x87, R151). -/
def execAddAA (s : State) : Result := aluReg .add .a s

/-- ADC A,B (0x88, R154). -/
def execAdcAB (s : State) : Result := aluReg .adc .b s

/-- ADC A,C (0x89, R154). -/
def execAdcAC (s : State) : Result := aluReg .adc .c s

/-- ADC A,D (0x8A, R154). -/
def execAdcAD (s : State) : Result := aluReg .adc .d s

/-- ADC A,E (0x8B, R154). -/
def execAdcAE (s : State) : Result := aluReg .adc .e s

/-- ADC A,H (0x8C, R154). -/
def execAdcAH (s : State) : Result := aluReg .adc .h s

/-- ADC A,L (0x8D, R154). -/
def execAdcAL (s : State) : Result := aluReg .adc .l s

/-- ADC A,(HL) (0x8E, R155). -/
def execAdcAAtHl (s : State) : Result := aluHl .adc s

/-- ADC A,A (0x8F, R154). -/
def execAdcAA (s : State) : Result := aluReg .adc .a s

/-- SUB B (0x90, R157). -/
def execSubB (s : State) : Result := aluReg .sub .b s

/-- SUB C (0x91, R157). -/
def execSubC (s : State) : Result := aluReg .sub .c s

/-- SUB D (0x92, R157). -/
def execSubD (s : State) : Result := aluReg .sub .d s

/-- SUB E (0x93, R157). -/
def execSubE (s : State) : Result := aluReg .sub .e s

/-- SUB H (0x94, R157). -/
def execSubH (s : State) : Result := aluReg .sub .h s

/-- SUB L (0x95, R157). -/
def execSubL (s : State) : Result := aluReg .sub .l s

/-- SUB (HL) (0x96, R158). -/
def execSubAtHl (s : State) : Result := aluHl .sub s

/-- SUB A (0x97, R157). -/
def execSubA (s : State) : Result := aluReg .sub .a s

/-- SBC A,B (0x98, R160). -/
def execSbcAB (s : State) : Result := aluReg .sbc .b s

/-- SBC A,C (0x99, R160). -/
def execSbcAC (s : State) : Result := aluReg .sbc .c s

/-- SBC A,D (0x9A, R160). -/
def execSbcAD (s : State) : Result := aluReg .sbc .d s

/-- SBC A,E (0x9B, R160). -/
def execSbcAE (s : State) : Result := aluReg .sbc .e s

/-- SBC A,H (0x9C, R160). -/
def execSbcAH (s : State) : Result := aluReg .sbc .h s

/-- SBC A,L (0x9D, R160). -/
def execSbcAL (s : State) : Result := aluReg .sbc .l s

/-- SBC A,(HL) (0x9E, R161). -/
def execSbcAAtHl (s : State) : Result := aluHl .sbc s

/-- SBC A,A (0x9F, R160). -/
def execSbcAA (s : State) : Result := aluReg .sbc .a s

/-- AND B (0xA0, R163). -/
def execAndB (s : State) : Result := aluReg .and .b s

/-- AND C (0xA1, R163). -/
def execAndC (s : State) : Result := aluReg .and .c s

/-- AND D (0xA2, R163). -/
def execAndD (s : State) : Result := aluReg .and .d s

/-- AND E (0xA3, R163). -/
def execAndE (s : State) : Result := aluReg .and .e s

/-- AND H (0xA4, R163). -/
def execAndH (s : State) : Result := aluReg .and .h s

/-- AND L (0xA5, R163). -/
def execAndL (s : State) : Result := aluReg .and .l s

/-- AND (HL) (0xA6, R164). -/
def execAndAtHl (s : State) : Result := aluHl .and s

/-- AND A (0xA7, R163). -/
def execAndA (s : State) : Result := aluReg .and .a s

/-- XOR B (0xA8, R166). -/
def execXorB (s : State) : Result := aluReg .xor .b s

/-- XOR C (0xA9, R166). -/
def execXorC (s : State) : Result := aluReg .xor .c s

/-- XOR D (0xAA, R166). -/
def execXorD (s : State) : Result := aluReg .xor .d s

/-- XOR E (0xAB, R166). -/
def execXorE (s : State) : Result := aluReg .xor .e s

/-- XOR H (0xAC, R166). -/
def execXorH (s : State) : Result := aluReg .xor .h s

/-- XOR L (0xAD, R166). -/
def execXorL (s : State) : Result := aluReg .xor .l s

/-- XOR (HL) (0xAE, R167). -/
def execXorAtHl (s : State) : Result := aluHl .xor s

/-- XOR A (0xAF, R166). -/
def execXorA (s : State) : Result := aluReg .xor .a s

/-- OR B (0xB0, R169). -/
def execOrB (s : State) : Result := aluReg .or .b s

/-- OR C (0xB1, R169). -/
def execOrC (s : State) : Result := aluReg .or .c s

/-- OR D (0xB2, R169). -/
def execOrD (s : State) : Result := aluReg .or .d s

/-- OR E (0xB3, R169). -/
def execOrE (s : State) : Result := aluReg .or .e s

/-- OR H (0xB4, R169). -/
def execOrH (s : State) : Result := aluReg .or .h s

/-- OR L (0xB5, R169). -/
def execOrL (s : State) : Result := aluReg .or .l s

/-- OR (HL) (0xB6, R170). -/
def execOrAtHl (s : State) : Result := aluHl .or s

/-- OR A (0xB7, R169). -/
def execOrA (s : State) : Result := aluReg .or .a s

/-- CP B (0xB8, R172). -/
def execCpB (s : State) : Result := aluReg .cp .b s

/-- CP C (0xB9, R172). -/
def execCpC (s : State) : Result := aluReg .cp .c s

/-- CP D (0xBA, R172). -/
def execCpD (s : State) : Result := aluReg .cp .d s

/-- CP E (0xBB, R172). -/
def execCpE (s : State) : Result := aluReg .cp .e s

/-- CP H (0xBC, R172). -/
def execCpH (s : State) : Result := aluReg .cp .h s

/-- CP L (0xBD, R172). -/
def execCpL (s : State) : Result := aluReg .cp .l s

/-- CP (HL) (0xBE, R173). -/
def execCpAtHl (s : State) : Result := aluHl .cp s

/-- CP A (0xBF, R172). -/
def execCpA (s : State) : Result := aluReg .cp .a s

/-- ADD A,n8 (0xC6, R153). -/
def execAddAN8 (n8 : Byte) (s : State) : Result := aluImm .add n8 s

/-- ADC A,n8 (0xCE, R156). -/
def execAdcAN8 (n8 : Byte) (s : State) : Result := aluImm .adc n8 s

/-- SUB n8 (0xD6, R159). -/
def execSubN8 (n8 : Byte) (s : State) : Result := aluImm .sub n8 s

/-- SBC A,n8 (0xDE, R162). -/
def execSbcAN8 (n8 : Byte) (s : State) : Result := aluImm .sbc n8 s

/-- AND n8 (0xE6, R165). -/
def execAndN8 (n8 : Byte) (s : State) : Result := aluImm .and n8 s

/-- XOR n8 (0xEE, R168). -/
def execXorN8 (n8 : Byte) (s : State) : Result := aluImm .xor n8 s

/-- OR n8 (0xF6, R171). -/
def execOrN8 (n8 : Byte) (s : State) : Result := aluImm .or n8 s

/-- CP n8 (0xFE, R174). -/
def execCpN8 (n8 : Byte) (s : State) : Result := aluImm .cp n8 s

end Sys2Proof.Machine
end

