-- ==== Sys2Proof/Machine/BitOps.lean ====
section
/-! DEFINITION. Single-bit test, reset and set (45_bit.md, R207 to R212). -/

namespace Sys2Proof.Machine

/-- The byte with bit n clear, `v & ~(1 << n)` (R209). -/
def clearBit (n : Fin 8) (v : Byte) : Byte := v &&& ~~~(1#8 <<< n.val)

/-- The byte with bit n set, `v | (1 << n)` (R211). -/
def setBit (n : Fin 8) (v : Byte) : Byte := v ||| (1#8 <<< n.val)

/-- The flags of BIT: Z the bit's complement, N clear, H set, C kept (R207). -/
def State.bitFlags (n : Fin 8) (v : Byte) (s : State) : State :=
  s.writeFlags (!bitOf v n.val) false true s.flagC

/-- BIT b,r (R207). -/
def bitReg (n : Fin 8) (r : Reg8) (s : State) : Result := .next ((s.bitFlags n (s.reg r)).tick 8)

/-- BIT b,(HL) (R208): one read, no write. -/
def bitHl (n : Fin 8) (s : State) : Result := readHl s (fun v => .next ((s.bitFlags n v).tick 12))

/-- RES b,r (R209). -/
def resReg (n : Fin 8) (r : Reg8) (s : State) : Result :=
  .next ((s.setReg r (clearBit n (s.reg r))).tick 8)

/-- RES b,(HL) (R210): the byte is always written back. -/
def resHl (n : Fin 8) (s : State) : Result :=
  modifyHl s (clearBit n) (fun _ t => .next (t.tick 16))

/-- SET b,r (R211). -/
def setReg (n : Fin 8) (r : Reg8) (s : State) : Result :=
  .next ((s.setReg r (setBit n (s.reg r))).tick 8)

/-- SET b,(HL) (R212). -/
def setHl (n : Fin 8) (s : State) : Result :=
  modifyHl s (setBit n) (fun _ t => .next (t.tick 16))

/-- BIT 0,B (0xCB 0x40, R207). -/
def execBit0B (s : State) : Result := bitReg 0 .b s

/-- BIT 0,C (0xCB 0x41, R207). -/
def execBit0C (s : State) : Result := bitReg 0 .c s

/-- BIT 0,D (0xCB 0x42, R207). -/
def execBit0D (s : State) : Result := bitReg 0 .d s

/-- BIT 0,E (0xCB 0x43, R207). -/
def execBit0E (s : State) : Result := bitReg 0 .e s

/-- BIT 0,H (0xCB 0x44, R207). -/
def execBit0H (s : State) : Result := bitReg 0 .h s

/-- BIT 0,L (0xCB 0x45, R207). -/
def execBit0L (s : State) : Result := bitReg 0 .l s

/-- BIT 0,(HL) (0xCB 0x46, R208). -/
def execBit0AtHl (s : State) : Result := bitHl 0 s

/-- BIT 0,A (0xCB 0x47, R207). -/
def execBit0A (s : State) : Result := bitReg 0 .a s

/-- BIT 1,B (0xCB 0x48, R207). -/
def execBit1B (s : State) : Result := bitReg 1 .b s

/-- BIT 1,C (0xCB 0x49, R207). -/
def execBit1C (s : State) : Result := bitReg 1 .c s

/-- BIT 1,D (0xCB 0x4A, R207). -/
def execBit1D (s : State) : Result := bitReg 1 .d s

/-- BIT 1,E (0xCB 0x4B, R207). -/
def execBit1E (s : State) : Result := bitReg 1 .e s

/-- BIT 1,H (0xCB 0x4C, R207). -/
def execBit1H (s : State) : Result := bitReg 1 .h s

/-- BIT 1,L (0xCB 0x4D, R207). -/
def execBit1L (s : State) : Result := bitReg 1 .l s

/-- BIT 1,(HL) (0xCB 0x4E, R208). -/
def execBit1AtHl (s : State) : Result := bitHl 1 s

/-- BIT 1,A (0xCB 0x4F, R207). -/
def execBit1A (s : State) : Result := bitReg 1 .a s

/-- BIT 2,B (0xCB 0x50, R207). -/
def execBit2B (s : State) : Result := bitReg 2 .b s

/-- BIT 2,C (0xCB 0x51, R207). -/
def execBit2C (s : State) : Result := bitReg 2 .c s

/-- BIT 2,D (0xCB 0x52, R207). -/
def execBit2D (s : State) : Result := bitReg 2 .d s

/-- BIT 2,E (0xCB 0x53, R207). -/
def execBit2E (s : State) : Result := bitReg 2 .e s

/-- BIT 2,H (0xCB 0x54, R207). -/
def execBit2H (s : State) : Result := bitReg 2 .h s

/-- BIT 2,L (0xCB 0x55, R207). -/
def execBit2L (s : State) : Result := bitReg 2 .l s

/-- BIT 2,(HL) (0xCB 0x56, R208). -/
def execBit2AtHl (s : State) : Result := bitHl 2 s

/-- BIT 2,A (0xCB 0x57, R207). -/
def execBit2A (s : State) : Result := bitReg 2 .a s

/-- BIT 3,B (0xCB 0x58, R207). -/
def execBit3B (s : State) : Result := bitReg 3 .b s

/-- BIT 3,C (0xCB 0x59, R207). -/
def execBit3C (s : State) : Result := bitReg 3 .c s

/-- BIT 3,D (0xCB 0x5A, R207). -/
def execBit3D (s : State) : Result := bitReg 3 .d s

/-- BIT 3,E (0xCB 0x5B, R207). -/
def execBit3E (s : State) : Result := bitReg 3 .e s

/-- BIT 3,H (0xCB 0x5C, R207). -/
def execBit3H (s : State) : Result := bitReg 3 .h s

/-- BIT 3,L (0xCB 0x5D, R207). -/
def execBit3L (s : State) : Result := bitReg 3 .l s

/-- BIT 3,(HL) (0xCB 0x5E, R208). -/
def execBit3AtHl (s : State) : Result := bitHl 3 s

/-- BIT 3,A (0xCB 0x5F, R207). -/
def execBit3A (s : State) : Result := bitReg 3 .a s

/-- BIT 4,B (0xCB 0x60, R207). -/
def execBit4B (s : State) : Result := bitReg 4 .b s

/-- BIT 4,C (0xCB 0x61, R207). -/
def execBit4C (s : State) : Result := bitReg 4 .c s

/-- BIT 4,D (0xCB 0x62, R207). -/
def execBit4D (s : State) : Result := bitReg 4 .d s

/-- BIT 4,E (0xCB 0x63, R207). -/
def execBit4E (s : State) : Result := bitReg 4 .e s

/-- BIT 4,H (0xCB 0x64, R207). -/
def execBit4H (s : State) : Result := bitReg 4 .h s

/-- BIT 4,L (0xCB 0x65, R207). -/
def execBit4L (s : State) : Result := bitReg 4 .l s

/-- BIT 4,(HL) (0xCB 0x66, R208). -/
def execBit4AtHl (s : State) : Result := bitHl 4 s

/-- BIT 4,A (0xCB 0x67, R207). -/
def execBit4A (s : State) : Result := bitReg 4 .a s

/-- BIT 5,B (0xCB 0x68, R207). -/
def execBit5B (s : State) : Result := bitReg 5 .b s

/-- BIT 5,C (0xCB 0x69, R207). -/
def execBit5C (s : State) : Result := bitReg 5 .c s

/-- BIT 5,D (0xCB 0x6A, R207). -/
def execBit5D (s : State) : Result := bitReg 5 .d s

/-- BIT 5,E (0xCB 0x6B, R207). -/
def execBit5E (s : State) : Result := bitReg 5 .e s

/-- BIT 5,H (0xCB 0x6C, R207). -/
def execBit5H (s : State) : Result := bitReg 5 .h s

/-- BIT 5,L (0xCB 0x6D, R207). -/
def execBit5L (s : State) : Result := bitReg 5 .l s

/-- BIT 5,(HL) (0xCB 0x6E, R208). -/
def execBit5AtHl (s : State) : Result := bitHl 5 s

/-- BIT 5,A (0xCB 0x6F, R207). -/
def execBit5A (s : State) : Result := bitReg 5 .a s

/-- BIT 6,B (0xCB 0x70, R207). -/
def execBit6B (s : State) : Result := bitReg 6 .b s

/-- BIT 6,C (0xCB 0x71, R207). -/
def execBit6C (s : State) : Result := bitReg 6 .c s

/-- BIT 6,D (0xCB 0x72, R207). -/
def execBit6D (s : State) : Result := bitReg 6 .d s

/-- BIT 6,E (0xCB 0x73, R207). -/
def execBit6E (s : State) : Result := bitReg 6 .e s

/-- BIT 6,H (0xCB 0x74, R207). -/
def execBit6H (s : State) : Result := bitReg 6 .h s

/-- BIT 6,L (0xCB 0x75, R207). -/
def execBit6L (s : State) : Result := bitReg 6 .l s

/-- BIT 6,(HL) (0xCB 0x76, R208). -/
def execBit6AtHl (s : State) : Result := bitHl 6 s

/-- BIT 6,A (0xCB 0x77, R207). -/
def execBit6A (s : State) : Result := bitReg 6 .a s

/-- BIT 7,B (0xCB 0x78, R207). -/
def execBit7B (s : State) : Result := bitReg 7 .b s

/-- BIT 7,C (0xCB 0x79, R207). -/
def execBit7C (s : State) : Result := bitReg 7 .c s

/-- BIT 7,D (0xCB 0x7A, R207). -/
def execBit7D (s : State) : Result := bitReg 7 .d s

/-- BIT 7,E (0xCB 0x7B, R207). -/
def execBit7E (s : State) : Result := bitReg 7 .e s

/-- BIT 7,H (0xCB 0x7C, R207). -/
def execBit7H (s : State) : Result := bitReg 7 .h s

/-- BIT 7,L (0xCB 0x7D, R207). -/
def execBit7L (s : State) : Result := bitReg 7 .l s

/-- BIT 7,(HL) (0xCB 0x7E, R208). -/
def execBit7AtHl (s : State) : Result := bitHl 7 s

/-- BIT 7,A (0xCB 0x7F, R207). -/
def execBit7A (s : State) : Result := bitReg 7 .a s

/-- RES 0,B (0xCB 0x80, R209). -/
def execRes0B (s : State) : Result := resReg 0 .b s

/-- RES 0,C (0xCB 0x81, R209). -/
def execRes0C (s : State) : Result := resReg 0 .c s

/-- RES 0,D (0xCB 0x82, R209). -/
def execRes0D (s : State) : Result := resReg 0 .d s

/-- RES 0,E (0xCB 0x83, R209). -/
def execRes0E (s : State) : Result := resReg 0 .e s

/-- RES 0,H (0xCB 0x84, R209). -/
def execRes0H (s : State) : Result := resReg 0 .h s

/-- RES 0,L (0xCB 0x85, R209). -/
def execRes0L (s : State) : Result := resReg 0 .l s

/-- RES 0,(HL) (0xCB 0x86, R210). -/
def execRes0AtHl (s : State) : Result := resHl 0 s

/-- RES 0,A (0xCB 0x87, R209). -/
def execRes0A (s : State) : Result := resReg 0 .a s

/-- RES 1,B (0xCB 0x88, R209). -/
def execRes1B (s : State) : Result := resReg 1 .b s

/-- RES 1,C (0xCB 0x89, R209). -/
def execRes1C (s : State) : Result := resReg 1 .c s

/-- RES 1,D (0xCB 0x8A, R209). -/
def execRes1D (s : State) : Result := resReg 1 .d s

/-- RES 1,E (0xCB 0x8B, R209). -/
def execRes1E (s : State) : Result := resReg 1 .e s

/-- RES 1,H (0xCB 0x8C, R209). -/
def execRes1H (s : State) : Result := resReg 1 .h s

/-- RES 1,L (0xCB 0x8D, R209). -/
def execRes1L (s : State) : Result := resReg 1 .l s

/-- RES 1,(HL) (0xCB 0x8E, R210). -/
def execRes1AtHl (s : State) : Result := resHl 1 s

/-- RES 1,A (0xCB 0x8F, R209). -/
def execRes1A (s : State) : Result := resReg 1 .a s

/-- RES 2,B (0xCB 0x90, R209). -/
def execRes2B (s : State) : Result := resReg 2 .b s

/-- RES 2,C (0xCB 0x91, R209). -/
def execRes2C (s : State) : Result := resReg 2 .c s

/-- RES 2,D (0xCB 0x92, R209). -/
def execRes2D (s : State) : Result := resReg 2 .d s

/-- RES 2,E (0xCB 0x93, R209). -/
def execRes2E (s : State) : Result := resReg 2 .e s

/-- RES 2,H (0xCB 0x94, R209). -/
def execRes2H (s : State) : Result := resReg 2 .h s

/-- RES 2,L (0xCB 0x95, R209). -/
def execRes2L (s : State) : Result := resReg 2 .l s

/-- RES 2,(HL) (0xCB 0x96, R210). -/
def execRes2AtHl (s : State) : Result := resHl 2 s

/-- RES 2,A (0xCB 0x97, R209). -/
def execRes2A (s : State) : Result := resReg 2 .a s

/-- RES 3,B (0xCB 0x98, R209). -/
def execRes3B (s : State) : Result := resReg 3 .b s

/-- RES 3,C (0xCB 0x99, R209). -/
def execRes3C (s : State) : Result := resReg 3 .c s

/-- RES 3,D (0xCB 0x9A, R209). -/
def execRes3D (s : State) : Result := resReg 3 .d s

/-- RES 3,E (0xCB 0x9B, R209). -/
def execRes3E (s : State) : Result := resReg 3 .e s

/-- RES 3,H (0xCB 0x9C, R209). -/
def execRes3H (s : State) : Result := resReg 3 .h s

/-- RES 3,L (0xCB 0x9D, R209). -/
def execRes3L (s : State) : Result := resReg 3 .l s

/-- RES 3,(HL) (0xCB 0x9E, R210). -/
def execRes3AtHl (s : State) : Result := resHl 3 s

/-- RES 3,A (0xCB 0x9F, R209). -/
def execRes3A (s : State) : Result := resReg 3 .a s

/-- RES 4,B (0xCB 0xA0, R209). -/
def execRes4B (s : State) : Result := resReg 4 .b s

/-- RES 4,C (0xCB 0xA1, R209). -/
def execRes4C (s : State) : Result := resReg 4 .c s

/-- RES 4,D (0xCB 0xA2, R209). -/
def execRes4D (s : State) : Result := resReg 4 .d s

/-- RES 4,E (0xCB 0xA3, R209). -/
def execRes4E (s : State) : Result := resReg 4 .e s

/-- RES 4,H (0xCB 0xA4, R209). -/
def execRes4H (s : State) : Result := resReg 4 .h s

/-- RES 4,L (0xCB 0xA5, R209). -/
def execRes4L (s : State) : Result := resReg 4 .l s

/-- RES 4,(HL) (0xCB 0xA6, R210). -/
def execRes4AtHl (s : State) : Result := resHl 4 s

/-- RES 4,A (0xCB 0xA7, R209). -/
def execRes4A (s : State) : Result := resReg 4 .a s

/-- RES 5,B (0xCB 0xA8, R209). -/
def execRes5B (s : State) : Result := resReg 5 .b s

/-- RES 5,C (0xCB 0xA9, R209). -/
def execRes5C (s : State) : Result := resReg 5 .c s

/-- RES 5,D (0xCB 0xAA, R209). -/
def execRes5D (s : State) : Result := resReg 5 .d s

/-- RES 5,E (0xCB 0xAB, R209). -/
def execRes5E (s : State) : Result := resReg 5 .e s

/-- RES 5,H (0xCB 0xAC, R209). -/
def execRes5H (s : State) : Result := resReg 5 .h s

/-- RES 5,L (0xCB 0xAD, R209). -/
def execRes5L (s : State) : Result := resReg 5 .l s

/-- RES 5,(HL) (0xCB 0xAE, R210). -/
def execRes5AtHl (s : State) : Result := resHl 5 s

/-- RES 5,A (0xCB 0xAF, R209). -/
def execRes5A (s : State) : Result := resReg 5 .a s

/-- RES 6,B (0xCB 0xB0, R209). -/
def execRes6B (s : State) : Result := resReg 6 .b s

/-- RES 6,C (0xCB 0xB1, R209). -/
def execRes6C (s : State) : Result := resReg 6 .c s

/-- RES 6,D (0xCB 0xB2, R209). -/
def execRes6D (s : State) : Result := resReg 6 .d s

/-- RES 6,E (0xCB 0xB3, R209). -/
def execRes6E (s : State) : Result := resReg 6 .e s

/-- RES 6,H (0xCB 0xB4, R209). -/
def execRes6H (s : State) : Result := resReg 6 .h s

/-- RES 6,L (0xCB 0xB5, R209). -/
def execRes6L (s : State) : Result := resReg 6 .l s

/-- RES 6,(HL) (0xCB 0xB6, R210). -/
def execRes6AtHl (s : State) : Result := resHl 6 s

/-- RES 6,A (0xCB 0xB7, R209). -/
def execRes6A (s : State) : Result := resReg 6 .a s

/-- RES 7,B (0xCB 0xB8, R209). -/
def execRes7B (s : State) : Result := resReg 7 .b s

/-- RES 7,C (0xCB 0xB9, R209). -/
def execRes7C (s : State) : Result := resReg 7 .c s

/-- RES 7,D (0xCB 0xBA, R209). -/
def execRes7D (s : State) : Result := resReg 7 .d s

/-- RES 7,E (0xCB 0xBB, R209). -/
def execRes7E (s : State) : Result := resReg 7 .e s

/-- RES 7,H (0xCB 0xBC, R209). -/
def execRes7H (s : State) : Result := resReg 7 .h s

/-- RES 7,L (0xCB 0xBD, R209). -/
def execRes7L (s : State) : Result := resReg 7 .l s

/-- RES 7,(HL) (0xCB 0xBE, R210). -/
def execRes7AtHl (s : State) : Result := resHl 7 s

/-- RES 7,A (0xCB 0xBF, R209). -/
def execRes7A (s : State) : Result := resReg 7 .a s

/-- SET 0,B (0xCB 0xC0, R211). -/
def execSet0B (s : State) : Result := setReg 0 .b s

/-- SET 0,C (0xCB 0xC1, R211). -/
def execSet0C (s : State) : Result := setReg 0 .c s

/-- SET 0,D (0xCB 0xC2, R211). -/
def execSet0D (s : State) : Result := setReg 0 .d s

/-- SET 0,E (0xCB 0xC3, R211). -/
def execSet0E (s : State) : Result := setReg 0 .e s

/-- SET 0,H (0xCB 0xC4, R211). -/
def execSet0H (s : State) : Result := setReg 0 .h s

/-- SET 0,L (0xCB 0xC5, R211). -/
def execSet0L (s : State) : Result := setReg 0 .l s

/-- SET 0,(HL) (0xCB 0xC6, R212). -/
def execSet0AtHl (s : State) : Result := setHl 0 s

/-- SET 0,A (0xCB 0xC7, R211). -/
def execSet0A (s : State) : Result := setReg 0 .a s

/-- SET 1,B (0xCB 0xC8, R211). -/
def execSet1B (s : State) : Result := setReg 1 .b s

/-- SET 1,C (0xCB 0xC9, R211). -/
def execSet1C (s : State) : Result := setReg 1 .c s

/-- SET 1,D (0xCB 0xCA, R211). -/
def execSet1D (s : State) : Result := setReg 1 .d s

/-- SET 1,E (0xCB 0xCB, R211). -/
def execSet1E (s : State) : Result := setReg 1 .e s

/-- SET 1,H (0xCB 0xCC, R211). -/
def execSet1H (s : State) : Result := setReg 1 .h s

/-- SET 1,L (0xCB 0xCD, R211). -/
def execSet1L (s : State) : Result := setReg 1 .l s

/-- SET 1,(HL) (0xCB 0xCE, R212). -/
def execSet1AtHl (s : State) : Result := setHl 1 s

/-- SET 1,A (0xCB 0xCF, R211). -/
def execSet1A (s : State) : Result := setReg 1 .a s

/-- SET 2,B (0xCB 0xD0, R211). -/
def execSet2B (s : State) : Result := setReg 2 .b s

/-- SET 2,C (0xCB 0xD1, R211). -/
def execSet2C (s : State) : Result := setReg 2 .c s

/-- SET 2,D (0xCB 0xD2, R211). -/
def execSet2D (s : State) : Result := setReg 2 .d s

/-- SET 2,E (0xCB 0xD3, R211). -/
def execSet2E (s : State) : Result := setReg 2 .e s

/-- SET 2,H (0xCB 0xD4, R211). -/
def execSet2H (s : State) : Result := setReg 2 .h s

/-- SET 2,L (0xCB 0xD5, R211). -/
def execSet2L (s : State) : Result := setReg 2 .l s

/-- SET 2,(HL) (0xCB 0xD6, R212). -/
def execSet2AtHl (s : State) : Result := setHl 2 s

/-- SET 2,A (0xCB 0xD7, R211). -/
def execSet2A (s : State) : Result := setReg 2 .a s

/-- SET 3,B (0xCB 0xD8, R211). -/
def execSet3B (s : State) : Result := setReg 3 .b s

/-- SET 3,C (0xCB 0xD9, R211). -/
def execSet3C (s : State) : Result := setReg 3 .c s

/-- SET 3,D (0xCB 0xDA, R211). -/
def execSet3D (s : State) : Result := setReg 3 .d s

/-- SET 3,E (0xCB 0xDB, R211). -/
def execSet3E (s : State) : Result := setReg 3 .e s

/-- SET 3,H (0xCB 0xDC, R211). -/
def execSet3H (s : State) : Result := setReg 3 .h s

/-- SET 3,L (0xCB 0xDD, R211). -/
def execSet3L (s : State) : Result := setReg 3 .l s

/-- SET 3,(HL) (0xCB 0xDE, R212). -/
def execSet3AtHl (s : State) : Result := setHl 3 s

/-- SET 3,A (0xCB 0xDF, R211). -/
def execSet3A (s : State) : Result := setReg 3 .a s

/-- SET 4,B (0xCB 0xE0, R211). -/
def execSet4B (s : State) : Result := setReg 4 .b s

/-- SET 4,C (0xCB 0xE1, R211). -/
def execSet4C (s : State) : Result := setReg 4 .c s

/-- SET 4,D (0xCB 0xE2, R211). -/
def execSet4D (s : State) : Result := setReg 4 .d s

/-- SET 4,E (0xCB 0xE3, R211). -/
def execSet4E (s : State) : Result := setReg 4 .e s

/-- SET 4,H (0xCB 0xE4, R211). -/
def execSet4H (s : State) : Result := setReg 4 .h s

/-- SET 4,L (0xCB 0xE5, R211). -/
def execSet4L (s : State) : Result := setReg 4 .l s

/-- SET 4,(HL) (0xCB 0xE6, R212). -/
def execSet4AtHl (s : State) : Result := setHl 4 s

/-- SET 4,A (0xCB 0xE7, R211). -/
def execSet4A (s : State) : Result := setReg 4 .a s

/-- SET 5,B (0xCB 0xE8, R211). -/
def execSet5B (s : State) : Result := setReg 5 .b s

/-- SET 5,C (0xCB 0xE9, R211). -/
def execSet5C (s : State) : Result := setReg 5 .c s

/-- SET 5,D (0xCB 0xEA, R211). -/
def execSet5D (s : State) : Result := setReg 5 .d s

/-- SET 5,E (0xCB 0xEB, R211). -/
def execSet5E (s : State) : Result := setReg 5 .e s

/-- SET 5,H (0xCB 0xEC, R211). -/
def execSet5H (s : State) : Result := setReg 5 .h s

/-- SET 5,L (0xCB 0xED, R211). -/
def execSet5L (s : State) : Result := setReg 5 .l s

/-- SET 5,(HL) (0xCB 0xEE, R212). -/
def execSet5AtHl (s : State) : Result := setHl 5 s

/-- SET 5,A (0xCB 0xEF, R211). -/
def execSet5A (s : State) : Result := setReg 5 .a s

/-- SET 6,B (0xCB 0xF0, R211). -/
def execSet6B (s : State) : Result := setReg 6 .b s

/-- SET 6,C (0xCB 0xF1, R211). -/
def execSet6C (s : State) : Result := setReg 6 .c s

/-- SET 6,D (0xCB 0xF2, R211). -/
def execSet6D (s : State) : Result := setReg 6 .d s

/-- SET 6,E (0xCB 0xF3, R211). -/
def execSet6E (s : State) : Result := setReg 6 .e s

/-- SET 6,H (0xCB 0xF4, R211). -/
def execSet6H (s : State) : Result := setReg 6 .h s

/-- SET 6,L (0xCB 0xF5, R211). -/
def execSet6L (s : State) : Result := setReg 6 .l s

/-- SET 6,(HL) (0xCB 0xF6, R212). -/
def execSet6AtHl (s : State) : Result := setHl 6 s

/-- SET 6,A (0xCB 0xF7, R211). -/
def execSet6A (s : State) : Result := setReg 6 .a s

/-- SET 7,B (0xCB 0xF8, R211). -/
def execSet7B (s : State) : Result := setReg 7 .b s

/-- SET 7,C (0xCB 0xF9, R211). -/
def execSet7C (s : State) : Result := setReg 7 .c s

/-- SET 7,D (0xCB 0xFA, R211). -/
def execSet7D (s : State) : Result := setReg 7 .d s

/-- SET 7,E (0xCB 0xFB, R211). -/
def execSet7E (s : State) : Result := setReg 7 .e s

/-- SET 7,H (0xCB 0xFC, R211). -/
def execSet7H (s : State) : Result := setReg 7 .h s

/-- SET 7,L (0xCB 0xFD, R211). -/
def execSet7L (s : State) : Result := setReg 7 .l s

/-- SET 7,(HL) (0xCB 0xFE, R212). -/
def execSet7AtHl (s : State) : Result := setHl 7 s

/-- SET 7,A (0xCB 0xFF, R211). -/
def execSet7A (s : State) : Result := setReg 7 .a s

end Sys2Proof.Machine
end

