-- ==== Sys2Proof/Machine/Control.lean ====
section
/-! DEFINITION. Jumps, calls, returns and restarts (46_control.md, R213 to R223). PC holds PC_next (R17). -/

namespace Sys2Proof.Machine

/-- `PC <- target` (R14). -/
def State.jump (target : Addr) (s : State) : State := { s with pc := target }

/-- `PC + sext_16(n8)`, from the end of the instruction (R216). -/
def State.relative (s : State) (n : Byte) : Addr := s.pc + sext16 n

/-- `Push(PC); PC <- target` (R218, R220). -/
def callTo (target : Addr) (cost : Nat) (s : State) : Result :=
  push s.pc s (fun t => .next ((t.jump target).tick cost))

/-- `PC <- Pop()` (R221). -/
def returnTo (cost : Nat) (s : State) : Result :=
  pop s (fun w t => .next ((t.jump w).tick cost))

/-- JP cc,n16 (R214). -/
def jpCond (cc : Cond) (n : Addr) (s : State) : Result :=
  if s.cond cc then .next ((s.jump n).tick 16) else .next (s.tick 12)

/-- JR cc,e8 (R217). -/
def jrCond (cc : Cond) (n : Byte) (s : State) : Result :=
  if s.cond cc then .next ((s.jump (s.relative n)).tick 12) else .next (s.tick 8)

/-- CALL cc,n16 (R219). -/
def callCond (cc : Cond) (n : Addr) (s : State) : Result :=
  if s.cond cc then callTo n 24 s else .next (s.tick 12)

/-- The target of RST t, `8 * t` (R111, R220). -/
def rstTarget (t : Fin 8) : Addr := BitVec.ofNat 16 (8 * t.val)

/-- RST t (R220). -/
def rst (t : Fin 8) (s : State) : Result := callTo (rstTarget t) 16 s

/-- RET cc (R222). -/
def retCond (cc : Cond) (s : State) : Result :=
  if s.cond cc then returnTo 20 s else .next (s.tick 8)

/-- JR e8 (0x18, R216). -/
def execJrE8 (e8 : Byte) (s : State) : Result :=
  .next ((s.jump (s.relative e8)).tick 12)

/-- JR NZ,e8 (0x20, R217). -/
def execJrNzE8 (e8 : Byte) (s : State) : Result := jrCond .nz e8 s

/-- JR Z,e8 (0x28, R217). -/
def execJrZE8 (e8 : Byte) (s : State) : Result := jrCond .z e8 s

/-- JR NC,e8 (0x30, R217). -/
def execJrNcE8 (e8 : Byte) (s : State) : Result := jrCond .nc e8 s

/-- JR C,e8 (0x38, R217). -/
def execJrCE8 (e8 : Byte) (s : State) : Result := jrCond .c e8 s

/-- RET NZ (0xC0, R222). -/
def execRetNz (s : State) : Result := retCond .nz s

/-- JP NZ,n16 (0xC2, R214). -/
def execJpNzN16 (n16 : Addr) (s : State) : Result := jpCond .nz n16 s

/-- JP n16 (0xC3, R213). -/
def execJpN16 (n16 : Addr) (s : State) : Result :=
  .next ((s.jump n16).tick 16)

/-- CALL NZ,n16 (0xC4, R219). -/
def execCallNzN16 (n16 : Addr) (s : State) : Result := callCond .nz n16 s

/-- RST 0x00 (0xC7, R220). -/
def execRst00 (s : State) : Result := rst 0 s

/-- RET Z (0xC8, R222). -/
def execRetZ (s : State) : Result := retCond .z s

/-- RET (0xC9, R221). -/
def execRet (s : State) : Result :=
  returnTo 16 s

/-- JP Z,n16 (0xCA, R214). -/
def execJpZN16 (n16 : Addr) (s : State) : Result := jpCond .z n16 s

/-- CALL Z,n16 (0xCC, R219). -/
def execCallZN16 (n16 : Addr) (s : State) : Result := callCond .z n16 s

/-- CALL n16 (0xCD, R218). -/
def execCallN16 (n16 : Addr) (s : State) : Result :=
  callTo n16 24 s

/-- RST 0x08 (0xCF, R220). -/
def execRst08 (s : State) : Result := rst 1 s

/-- RET NC (0xD0, R222). -/
def execRetNc (s : State) : Result := retCond .nc s

/-- JP NC,n16 (0xD2, R214). -/
def execJpNcN16 (n16 : Addr) (s : State) : Result := jpCond .nc n16 s

/-- CALL NC,n16 (0xD4, R219). -/
def execCallNcN16 (n16 : Addr) (s : State) : Result := callCond .nc n16 s

/-- RST 0x10 (0xD7, R220). -/
def execRst10 (s : State) : Result := rst 2 s

/-- RET C (0xD8, R222). -/
def execRetC (s : State) : Result := retCond .c s

/-- RETI (0xD9, R223): IME at once, without EI's delay. -/
def execReti (s : State) : Result :=
  interruptReturn s (fun t => .next (t.tick 16))

/-- JP C,n16 (0xDA, R214). -/
def execJpCN16 (n16 : Addr) (s : State) : Result := jpCond .c n16 s

/-- CALL C,n16 (0xDC, R219). -/
def execCallCN16 (n16 : Addr) (s : State) : Result := callCond .c n16 s

/-- RST 0x18 (0xDF, R220). -/
def execRst18 (s : State) : Result := rst 3 s

/-- RST 0x20 (0xE7, R220). -/
def execRst20 (s : State) : Result := rst 4 s

/-- JP HL (0xE9, R215): no memory read. -/
def execJpHl (s : State) : Result :=
  .next ((s.jump s.hl).tick 4)

/-- RST 0x28 (0xEF, R220). -/
def execRst28 (s : State) : Result := rst 5 s

/-- RST 0x30 (0xF7, R220). -/
def execRst30 (s : State) : Result := rst 6 s

/-- RST 0x38 (0xFF, R220). -/
def execRst38 (s : State) : Result := rst 7 s

end Sys2Proof.Machine
end

