-- ==== Sys2Proof/Machine/Load16.lean ====
section
/-! DEFINITION. 16-bit loads and stack operations (41_load16.md, R145 to R150). -/

namespace Sys2Proof.Machine

/-- LD dd,n16 (R145). -/
def ldPairImm (p : Pair) (n : Addr) (s : State) : Result := .next ((s.setPair p n).tick 12)

/-- PUSH qq (R149). -/
def pushPair (q : StackPair) (s : State) : Result :=
  push (s.stackPair q) s (fun t => .next (t.tick 16))

/-- POP qq (R150); POP AF masks F (R27). -/
def popPair (q : StackPair) (s : State) : Result :=
  pop s (fun w t => .next ((t.setStackPair q w).tick 12))

/-- LD BC,n16 (0x01, R145). -/
def execLdBcN16 (n16 : Addr) (s : State) : Result := ldPairImm .bc n16 s

/-- LD (n16),SP (0x08, R146): low byte at n16, high byte at n16 + 1. -/
def execLdAtN16Sp (n16 : Addr) (s : State) : Result :=
  writeWord s n16 s.sp (fun t => .next (t.tick 20))

/-- LD DE,n16 (0x11, R145). -/
def execLdDeN16 (n16 : Addr) (s : State) : Result := ldPairImm .de n16 s

/-- LD HL,n16 (0x21, R145). -/
def execLdHlN16 (n16 : Addr) (s : State) : Result := ldPairImm .hl n16 s

/-- LD SP,n16 (0x31, R145). -/
def execLdSpN16 (n16 : Addr) (s : State) : Result := ldPairImm .sp n16 s

/-- POP BC (0xC1, R150). -/
def execPopBc (s : State) : Result := popPair .bc s

/-- PUSH BC (0xC5, R149). -/
def execPushBc (s : State) : Result := pushPair .bc s

/-- POP DE (0xD1, R150). -/
def execPopDe (s : State) : Result := popPair .de s

/-- PUSH DE (0xD5, R149). -/
def execPushDe (s : State) : Result := pushPair .de s

/-- POP HL (0xE1, R150). -/
def execPopHl (s : State) : Result := popPair .hl s

/-- PUSH HL (0xE5, R149). -/
def execPushHl (s : State) : Result := pushPair .hl s

/-- POP AF (0xF1, R150). -/
def execPopAf (s : State) : Result := popPair .af s

/-- PUSH AF (0xF5, R149). -/
def execPushAf (s : State) : Result := pushPair .af s

/-- LD HL,SP+e8 (0xF8, R148): flags of the unsigned low-byte sum. -/
def execLdHlSpE8 (e8 : Byte) (s : State) : Result :=
  .next (((s.setHl (s.sp + sext16 e8)).writeFlags false false (spHalf s.sp e8) (spCarry s.sp e8)).tick 12)

/-- LD SP,HL (0xF9, R147). -/
def execLdSpHl (s : State) : Result :=
  .next (State.tick 8 { s with sp := s.hl })

end Sys2Proof.Machine
end

