-- ==== Sys2Proof/Machine/Load8.lean ====
section
/-! DEFINITION. 8-bit loads and stores (40_load8.md, R124 to R142). None writes a flag. -/

namespace Sys2Proof.Machine

/-- LD r,r' (R124). -/
def ldRegReg (dst src : Reg8) (s : State) : Result := .next ((s.setReg dst (s.reg src)).tick 4)

/-- LD r,n8 (R125). -/
def ldRegImm (dst : Reg8) (n : Byte) (s : State) : Result := .next ((s.setReg dst n).tick 8)

/-- LD r,(HL) (R126): the address is the old HL. -/
def ldRegHl (dst : Reg8) (s : State) : Result :=
  readHl s (fun v => .next ((s.setReg dst v).tick 8))

/-- LD (HL),r (R127). -/
def ldHlReg (src : Reg8) (s : State) : Result :=
  writeHl s (s.reg src) (fun t => .next (t.tick 8))

/-- A load of A from an address: R129, R130, R137, R139, R141. -/
def loadA (addr : Addr) (cost : Nat) (s : State) : Result :=
  readByte s addr (fun v => .next (State.tick cost { s with a := v }))

/-- A store of A to an address: R131, R132, R138, R140, R142. -/
def storeA (addr : Addr) (cost : Nat) (s : State) : Result :=
  writeByte s addr s.a (fun t => .next (t.tick cost))

/-- A store of A to HL, then HL changed by `delta`: R133, R134. -/
def storeAHlStep (delta : Addr) (s : State) : Result :=
  writeHl s s.a (fun t => .next ((t.setHl (t.hl + delta)).tick 8))

/-- A load of A from HL, then HL changed by `delta`: R135, R136. -/
def loadAHlStep (delta : Addr) (s : State) : Result :=
  readHl s (fun v => .next ((State.setHl (s.hl + delta) { s with a := v }).tick 8))

/-- LD (BC),A (0x02, R131). -/
def execLdAtBcA (s : State) : Result :=
  storeA s.bc 8 s

/-- LD B,n8 (0x06, R125). -/
def execLdBN8 (n8 : Byte) (s : State) : Result := ldRegImm .b n8 s

/-- LD A,(BC) (0x0A, R129). -/
def execLdAAtBc (s : State) : Result :=
  loadA s.bc 8 s

/-- LD C,n8 (0x0E, R125). -/
def execLdCN8 (n8 : Byte) (s : State) : Result := ldRegImm .c n8 s

/-- LD (DE),A (0x12, R132). -/
def execLdAtDeA (s : State) : Result :=
  storeA s.de 8 s

/-- LD D,n8 (0x16, R125). -/
def execLdDN8 (n8 : Byte) (s : State) : Result := ldRegImm .d n8 s

/-- LD A,(DE) (0x1A, R130). -/
def execLdAAtDe (s : State) : Result :=
  loadA s.de 8 s

/-- LD E,n8 (0x1E, R125). -/
def execLdEN8 (n8 : Byte) (s : State) : Result := ldRegImm .e n8 s

/-- LD (HL+),A (0x22, R133): the store, then HL + 1. -/
def execLdAtHlIncA (s : State) : Result :=
  storeAHlStep 1#16 s

/-- LD H,n8 (0x26, R125). -/
def execLdHN8 (n8 : Byte) (s : State) : Result := ldRegImm .h n8 s

/-- LD A,(HL+) (0x2A, R135): the load, then HL + 1. -/
def execLdAAtHlInc (s : State) : Result :=
  loadAHlStep 1#16 s

/-- LD L,n8 (0x2E, R125). -/
def execLdLN8 (n8 : Byte) (s : State) : Result := ldRegImm .l n8 s

/-- LD (HL-),A (0x32, R134): the store, then HL - 1. -/
def execLdAtHlDecA (s : State) : Result :=
  storeAHlStep 0xFFFF#16 s

/-- LD (HL),n8 (0x36, R128): store the immediate to the address in HL. -/
def execLdAtHlN8 (n8 : Byte) (s : State) : Result :=
  writeHl s n8 (fun t => .next (t.tick 12))

/-- LD A,(HL-) (0x3A, R136): the load, then HL - 1. -/
def execLdAAtHlDec (s : State) : Result :=
  loadAHlStep 0xFFFF#16 s

/-- LD A,n8 (0x3E, R125). -/
def execLdAN8 (n8 : Byte) (s : State) : Result := ldRegImm .a n8 s

/-- LD B,B (0x40, R124). -/
def execLdBB (s : State) : Result := ldRegReg .b .b s

/-- LD B,C (0x41, R124). -/
def execLdBC (s : State) : Result := ldRegReg .b .c s

/-- LD B,D (0x42, R124). -/
def execLdBD (s : State) : Result := ldRegReg .b .d s

/-- LD B,E (0x43, R124). -/
def execLdBE (s : State) : Result := ldRegReg .b .e s

/-- LD B,H (0x44, R124). -/
def execLdBH (s : State) : Result := ldRegReg .b .h s

/-- LD B,L (0x45, R124). -/
def execLdBL (s : State) : Result := ldRegReg .b .l s

/-- LD B,(HL) (0x46, R126). -/
def execLdBAtHl (s : State) : Result := ldRegHl .b s

/-- LD B,A (0x47, R124). -/
def execLdBA (s : State) : Result := ldRegReg .b .a s

/-- LD C,B (0x48, R124). -/
def execLdCB (s : State) : Result := ldRegReg .c .b s

/-- LD C,C (0x49, R124). -/
def execLdCC (s : State) : Result := ldRegReg .c .c s

/-- LD C,D (0x4A, R124). -/
def execLdCD (s : State) : Result := ldRegReg .c .d s

/-- LD C,E (0x4B, R124). -/
def execLdCE (s : State) : Result := ldRegReg .c .e s

/-- LD C,H (0x4C, R124). -/
def execLdCH (s : State) : Result := ldRegReg .c .h s

/-- LD C,L (0x4D, R124). -/
def execLdCL (s : State) : Result := ldRegReg .c .l s

/-- LD C,(HL) (0x4E, R126). -/
def execLdCAtHl (s : State) : Result := ldRegHl .c s

/-- LD C,A (0x4F, R124). -/
def execLdCA (s : State) : Result := ldRegReg .c .a s

/-- LD D,B (0x50, R124). -/
def execLdDB (s : State) : Result := ldRegReg .d .b s

/-- LD D,C (0x51, R124). -/
def execLdDC (s : State) : Result := ldRegReg .d .c s

/-- LD D,D (0x52, R124). -/
def execLdDD (s : State) : Result := ldRegReg .d .d s

/-- LD D,E (0x53, R124). -/
def execLdDE (s : State) : Result := ldRegReg .d .e s

/-- LD D,H (0x54, R124). -/
def execLdDH (s : State) : Result := ldRegReg .d .h s

/-- LD D,L (0x55, R124). -/
def execLdDL (s : State) : Result := ldRegReg .d .l s

/-- LD D,(HL) (0x56, R126). -/
def execLdDAtHl (s : State) : Result := ldRegHl .d s

/-- LD D,A (0x57, R124). -/
def execLdDA (s : State) : Result := ldRegReg .d .a s

/-- LD E,B (0x58, R124). -/
def execLdEB (s : State) : Result := ldRegReg .e .b s

/-- LD E,C (0x59, R124). -/
def execLdEC (s : State) : Result := ldRegReg .e .c s

/-- LD E,D (0x5A, R124). -/
def execLdED (s : State) : Result := ldRegReg .e .d s

/-- LD E,E (0x5B, R124). -/
def execLdEE (s : State) : Result := ldRegReg .e .e s

/-- LD E,H (0x5C, R124). -/
def execLdEH (s : State) : Result := ldRegReg .e .h s

/-- LD E,L (0x5D, R124). -/
def execLdEL (s : State) : Result := ldRegReg .e .l s

/-- LD E,(HL) (0x5E, R126). -/
def execLdEAtHl (s : State) : Result := ldRegHl .e s

/-- LD E,A (0x5F, R124). -/
def execLdEA (s : State) : Result := ldRegReg .e .a s

/-- LD H,B (0x60, R124). -/
def execLdHB (s : State) : Result := ldRegReg .h .b s

/-- LD H,C (0x61, R124). -/
def execLdHC (s : State) : Result := ldRegReg .h .c s

/-- LD H,D (0x62, R124). -/
def execLdHD (s : State) : Result := ldRegReg .h .d s

/-- LD H,E (0x63, R124). -/
def execLdHE (s : State) : Result := ldRegReg .h .e s

/-- LD H,H (0x64, R124). -/
def execLdHH (s : State) : Result := ldRegReg .h .h s

/-- LD H,L (0x65, R124). -/
def execLdHL (s : State) : Result := ldRegReg .h .l s

/-- LD H,(HL) (0x66, R126). -/
def execLdHAtHl (s : State) : Result := ldRegHl .h s

/-- LD H,A (0x67, R124). -/
def execLdHA (s : State) : Result := ldRegReg .h .a s

/-- LD L,B (0x68, R124). -/
def execLdLB (s : State) : Result := ldRegReg .l .b s

/-- LD L,C (0x69, R124). -/
def execLdLC (s : State) : Result := ldRegReg .l .c s

/-- LD L,D (0x6A, R124). -/
def execLdLD (s : State) : Result := ldRegReg .l .d s

/-- LD L,E (0x6B, R124). -/
def execLdLE (s : State) : Result := ldRegReg .l .e s

/-- LD L,H (0x6C, R124). -/
def execLdLH (s : State) : Result := ldRegReg .l .h s

/-- LD L,L (0x6D, R124). -/
def execLdLL (s : State) : Result := ldRegReg .l .l s

/-- LD L,(HL) (0x6E, R126). -/
def execLdLAtHl (s : State) : Result := ldRegHl .l s

/-- LD L,A (0x6F, R124). -/
def execLdLA (s : State) : Result := ldRegReg .l .a s

/-- LD (HL),B (0x70, R127). -/
def execLdAtHlB (s : State) : Result := ldHlReg .b s

/-- LD (HL),C (0x71, R127). -/
def execLdAtHlC (s : State) : Result := ldHlReg .c s

/-- LD (HL),D (0x72, R127). -/
def execLdAtHlD (s : State) : Result := ldHlReg .d s

/-- LD (HL),E (0x73, R127). -/
def execLdAtHlE (s : State) : Result := ldHlReg .e s

/-- LD (HL),H (0x74, R127). -/
def execLdAtHlH (s : State) : Result := ldHlReg .h s

/-- LD (HL),L (0x75, R127). -/
def execLdAtHlL (s : State) : Result := ldHlReg .l s

/-- LD (HL),A (0x77, R127). -/
def execLdAtHlA (s : State) : Result := ldHlReg .a s

/-- LD A,B (0x78, R124). -/
def execLdAB (s : State) : Result := ldRegReg .a .b s

/-- LD A,C (0x79, R124). -/
def execLdAC (s : State) : Result := ldRegReg .a .c s

/-- LD A,D (0x7A, R124). -/
def execLdAD (s : State) : Result := ldRegReg .a .d s

/-- LD A,E (0x7B, R124). -/
def execLdAE (s : State) : Result := ldRegReg .a .e s

/-- LD A,H (0x7C, R124). -/
def execLdAH (s : State) : Result := ldRegReg .a .h s

/-- LD A,L (0x7D, R124). -/
def execLdAL (s : State) : Result := ldRegReg .a .l s

/-- LD A,(HL) (0x7E, R126). -/
def execLdAAtHl (s : State) : Result := ldRegHl .a s

/-- LD A,A (0x7F, R124). -/
def execLdAA (s : State) : Result := ldRegReg .a .a s

/-- LDH (a8),A (0xE0, R140): the high page at offset n8. -/
def execLdhAtA8A (a8 : Byte) (s : State) : Result :=
  storeA (highPage a8) 12 s

/-- LD (C),A (0xE2, R142): the high page at offset C. -/
def execLdAtCA (s : State) : Result :=
  storeA (highPage s.c) 8 s

/-- LD (n16),A (0xEA, R138). -/
def execLdAtN16A (n16 : Addr) (s : State) : Result :=
  storeA n16 16 s

/-- LDH A,(a8) (0xF0, R139): the high page at offset n8. -/
def execLdhAAtA8 (a8 : Byte) (s : State) : Result :=
  loadA (highPage a8) 12 s

/-- LD A,(C) (0xF2, R141): the high page at offset C. -/
def execLdAAtC (s : State) : Result :=
  loadA (highPage s.c) 8 s

/-- LD A,(n16) (0xFA, R137). -/
def execLdAAtN16 (n16 : Addr) (s : State) : Result :=
  loadA n16 16 s

end Sys2Proof.Machine
end

