-- ==== Sys2Proof/WellFormed.lean ====
section
/-! DEFINITION. Which terms of `Instr` are instructions. Operand fields are as wide as their
encodings, so the one ill-formed term is the prefix row (R116). -/

namespace Sys2Proof

/-- Every row is an instruction but PREFIX CB: its bytes are the instruction "selected by byte 1"
(R116, the row's note), so as a term of its own it stands for no instruction the decoder gives. -/
def Instr.wellFormed : Instr → Bool
  | .prefixCb _ => false
  | _ => true

end Sys2Proof
end

