-- ==== Sys2Proof/Decode.lean ====
section
/-! DEFINITION. The decoder, from the grids of R118 (row = high nibble, column = low nibble); the
operand fields and the form of each row (R104 to R116); the encoder, from the encoding patterns the
instruction rules R124 to R229 give, by fields; and the words of spec/opcode_table.json. -/

namespace Sys2Proof

/-! ## Lengths -/

/-- The opcodes of two-byte instructions (R103 formats F2, F2S, F4; R118's length grid). -/
def twoByteOpcodes : List Byte :=
  [0x06#8, 0x0E#8, 0x16#8, 0x1E#8, 0x26#8, 0x2E#8, 0x36#8, 0x3E#8,
   0x10#8, 0x18#8, 0x20#8, 0x28#8, 0x30#8, 0x38#8]
  ++ [0xC6#8, 0xCE#8, 0xD6#8, 0xDE#8, 0xE6#8, 0xEE#8, 0xF6#8, 0xFE#8,
   0xCB#8, 0xE0#8, 0xE8#8, 0xF0#8, 0xF8#8]

/-- The opcodes of three-byte instructions (R103 format F3; R118's length grid). -/
def threeByteOpcodes : List Byte :=
  [0x01#8, 0x11#8, 0x21#8, 0x31#8, 0x08#8, 0xC2#8, 0xCA#8, 0xD2#8, 0xDA#8,
   0xC3#8, 0xC4#8, 0xCC#8, 0xD4#8, 0xDC#8, 0xCD#8, 0xEA#8, 0xFA#8]

/-- "The length of every instruction is fixed by its first byte (and is 2 for 0xCB)" (R102). -/
def instrLength (b0 : Byte) : Nat :=
  if b0 ∈ twoByteOpcodes then 2 else if b0 ∈ threeByteOpcodes then 3 else 1

/-! ## The 0xCB-prefixed map (R118) -/

/-- The 0xCB-prefixed map, row 0x0. -/
def cbRow0 (lo : Nat) : Instr :=
  match lo with
  | 0x0 => .rlcB
  | 0x1 => .rlcC
  | 0x2 => .rlcD
  | 0x3 => .rlcE
  | 0x4 => .rlcH
  | 0x5 => .rlcL
  | 0x6 => .rlcAtHl
  | 0x7 => .rlcA
  | 0x8 => .rrcB
  | 0x9 => .rrcC
  | 0xA => .rrcD
  | 0xB => .rrcE
  | 0xC => .rrcH
  | 0xD => .rrcL
  | 0xE => .rrcAtHl
  | _ => .rrcA

/-- The 0xCB-prefixed map, row 0x1. -/
def cbRow1 (lo : Nat) : Instr :=
  match lo with
  | 0x0 => .rlB
  | 0x1 => .rlC
  | 0x2 => .rlD
  | 0x3 => .rlE
  | 0x4 => .rlH
  | 0x5 => .rlL
  | 0x6 => .rlAtHl
  | 0x7 => .rlA
  | 0x8 => .rrB
  | 0x9 => .rrC
  | 0xA => .rrD
  | 0xB => .rrE
  | 0xC => .rrH
  | 0xD => .rrL
  | 0xE => .rrAtHl
  | _ => .rrA

/-- The 0xCB-prefixed map, row 0x2. -/
def cbRow2 (lo : Nat) : Instr :=
  match lo with
  | 0x0 => .slaB
  | 0x1 => .slaC
  | 0x2 => .slaD
  | 0x3 => .slaE
  | 0x4 => .slaH
  | 0x5 => .slaL
  | 0x6 => .slaAtHl
  | 0x7 => .slaA
  | 0x8 => .sraB
  | 0x9 => .sraC
  | 0xA => .sraD
  | 0xB => .sraE
  | 0xC => .sraH
  | 0xD => .sraL
  | 0xE => .sraAtHl
  | _ => .sraA

/-- The 0xCB-prefixed map, row 0x3. -/
def cbRow3 (lo : Nat) : Instr :=
  match lo with
  | 0x0 => .swapB
  | 0x1 => .swapC
  | 0x2 => .swapD
  | 0x3 => .swapE
  | 0x4 => .swapH
  | 0x5 => .swapL
  | 0x6 => .swapAtHl
  | 0x7 => .swapA
  | 0x8 => .srlB
  | 0x9 => .srlC
  | 0xA => .srlD
  | 0xB => .srlE
  | 0xC => .srlH
  | 0xD => .srlL
  | 0xE => .srlAtHl
  | _ => .srlA

/-- The 0xCB-prefixed map, row 0x4. -/
def cbRow4 (lo : Nat) : Instr :=
  match lo with
  | 0x0 => .bit0B
  | 0x1 => .bit0C
  | 0x2 => .bit0D
  | 0x3 => .bit0E
  | 0x4 => .bit0H
  | 0x5 => .bit0L
  | 0x6 => .bit0AtHl
  | 0x7 => .bit0A
  | 0x8 => .bit1B
  | 0x9 => .bit1C
  | 0xA => .bit1D
  | 0xB => .bit1E
  | 0xC => .bit1H
  | 0xD => .bit1L
  | 0xE => .bit1AtHl
  | _ => .bit1A

/-- The 0xCB-prefixed map, row 0x5. -/
def cbRow5 (lo : Nat) : Instr :=
  match lo with
  | 0x0 => .bit2B
  | 0x1 => .bit2C
  | 0x2 => .bit2D
  | 0x3 => .bit2E
  | 0x4 => .bit2H
  | 0x5 => .bit2L
  | 0x6 => .bit2AtHl
  | 0x7 => .bit2A
  | 0x8 => .bit3B
  | 0x9 => .bit3C
  | 0xA => .bit3D
  | 0xB => .bit3E
  | 0xC => .bit3H
  | 0xD => .bit3L
  | 0xE => .bit3AtHl
  | _ => .bit3A

/-- The 0xCB-prefixed map, row 0x6. -/
def cbRow6 (lo : Nat) : Instr :=
  match lo with
  | 0x0 => .bit4B
  | 0x1 => .bit4C
  | 0x2 => .bit4D
  | 0x3 => .bit4E
  | 0x4 => .bit4H
  | 0x5 => .bit4L
  | 0x6 => .bit4AtHl
  | 0x7 => .bit4A
  | 0x8 => .bit5B
  | 0x9 => .bit5C
  | 0xA => .bit5D
  | 0xB => .bit5E
  | 0xC => .bit5H
  | 0xD => .bit5L
  | 0xE => .bit5AtHl
  | _ => .bit5A

/-- The 0xCB-prefixed map, row 0x7. -/
def cbRow7 (lo : Nat) : Instr :=
  match lo with
  | 0x0 => .bit6B
  | 0x1 => .bit6C
  | 0x2 => .bit6D
  | 0x3 => .bit6E
  | 0x4 => .bit6H
  | 0x5 => .bit6L
  | 0x6 => .bit6AtHl
  | 0x7 => .bit6A
  | 0x8 => .bit7B
  | 0x9 => .bit7C
  | 0xA => .bit7D
  | 0xB => .bit7E
  | 0xC => .bit7H
  | 0xD => .bit7L
  | 0xE => .bit7AtHl
  | _ => .bit7A

/-- The 0xCB-prefixed map, row 0x8. -/
def cbRow8 (lo : Nat) : Instr :=
  match lo with
  | 0x0 => .res0B
  | 0x1 => .res0C
  | 0x2 => .res0D
  | 0x3 => .res0E
  | 0x4 => .res0H
  | 0x5 => .res0L
  | 0x6 => .res0AtHl
  | 0x7 => .res0A
  | 0x8 => .res1B
  | 0x9 => .res1C
  | 0xA => .res1D
  | 0xB => .res1E
  | 0xC => .res1H
  | 0xD => .res1L
  | 0xE => .res1AtHl
  | _ => .res1A

/-- The 0xCB-prefixed map, row 0x9. -/
def cbRow9 (lo : Nat) : Instr :=
  match lo with
  | 0x0 => .res2B
  | 0x1 => .res2C
  | 0x2 => .res2D
  | 0x3 => .res2E
  | 0x4 => .res2H
  | 0x5 => .res2L
  | 0x6 => .res2AtHl
  | 0x7 => .res2A
  | 0x8 => .res3B
  | 0x9 => .res3C
  | 0xA => .res3D
  | 0xB => .res3E
  | 0xC => .res3H
  | 0xD => .res3L
  | 0xE => .res3AtHl
  | _ => .res3A

/-- The 0xCB-prefixed map, row 0xA. -/
def cbRowA (lo : Nat) : Instr :=
  match lo with
  | 0x0 => .res4B
  | 0x1 => .res4C
  | 0x2 => .res4D
  | 0x3 => .res4E
  | 0x4 => .res4H
  | 0x5 => .res4L
  | 0x6 => .res4AtHl
  | 0x7 => .res4A
  | 0x8 => .res5B
  | 0x9 => .res5C
  | 0xA => .res5D
  | 0xB => .res5E
  | 0xC => .res5H
  | 0xD => .res5L
  | 0xE => .res5AtHl
  | _ => .res5A

/-- The 0xCB-prefixed map, row 0xB. -/
def cbRowB (lo : Nat) : Instr :=
  match lo with
  | 0x0 => .res6B
  | 0x1 => .res6C
  | 0x2 => .res6D
  | 0x3 => .res6E
  | 0x4 => .res6H
  | 0x5 => .res6L
  | 0x6 => .res6AtHl
  | 0x7 => .res6A
  | 0x8 => .res7B
  | 0x9 => .res7C
  | 0xA => .res7D
  | 0xB => .res7E
  | 0xC => .res7H
  | 0xD => .res7L
  | 0xE => .res7AtHl
  | _ => .res7A

/-- The 0xCB-prefixed map, row 0xC. -/
def cbRowC (lo : Nat) : Instr :=
  match lo with
  | 0x0 => .set0B
  | 0x1 => .set0C
  | 0x2 => .set0D
  | 0x3 => .set0E
  | 0x4 => .set0H
  | 0x5 => .set0L
  | 0x6 => .set0AtHl
  | 0x7 => .set0A
  | 0x8 => .set1B
  | 0x9 => .set1C
  | 0xA => .set1D
  | 0xB => .set1E
  | 0xC => .set1H
  | 0xD => .set1L
  | 0xE => .set1AtHl
  | _ => .set1A

/-- The 0xCB-prefixed map, row 0xD. -/
def cbRowD (lo : Nat) : Instr :=
  match lo with
  | 0x0 => .set2B
  | 0x1 => .set2C
  | 0x2 => .set2D
  | 0x3 => .set2E
  | 0x4 => .set2H
  | 0x5 => .set2L
  | 0x6 => .set2AtHl
  | 0x7 => .set2A
  | 0x8 => .set3B
  | 0x9 => .set3C
  | 0xA => .set3D
  | 0xB => .set3E
  | 0xC => .set3H
  | 0xD => .set3L
  | 0xE => .set3AtHl
  | _ => .set3A

/-- The 0xCB-prefixed map, row 0xE. -/
def cbRowE (lo : Nat) : Instr :=
  match lo with
  | 0x0 => .set4B
  | 0x1 => .set4C
  | 0x2 => .set4D
  | 0x3 => .set4E
  | 0x4 => .set4H
  | 0x5 => .set4L
  | 0x6 => .set4AtHl
  | 0x7 => .set4A
  | 0x8 => .set5B
  | 0x9 => .set5C
  | 0xA => .set5D
  | 0xB => .set5E
  | 0xC => .set5H
  | 0xD => .set5L
  | 0xE => .set5AtHl
  | _ => .set5A

/-- The 0xCB-prefixed map, row 0xF. -/
def cbRowF (lo : Nat) : Instr :=
  match lo with
  | 0x0 => .set6B
  | 0x1 => .set6C
  | 0x2 => .set6D
  | 0x3 => .set6E
  | 0x4 => .set6H
  | 0x5 => .set6L
  | 0x6 => .set6AtHl
  | 0x7 => .set6A
  | 0x8 => .set7B
  | 0x9 => .set7C
  | 0xA => .set7D
  | 0xB => .set7E
  | 0xC => .set7H
  | 0xD => .set7L
  | 0xE => .set7AtHl
  | _ => .set7A

/-- The prefixed instruction that the byte after 0xCB selects (R116, R118). -/
def decodeCb (cbop : Byte) : Instr :=
  let lo := cbop.toNat % 16
  match cbop.toNat / 16 with
  | 0x0 => cbRow0 lo
  | 0x1 => cbRow1 lo
  | 0x2 => cbRow2 lo
  | 0x3 => cbRow3 lo
  | 0x4 => cbRow4 lo
  | 0x5 => cbRow5 lo
  | 0x6 => cbRow6 lo
  | 0x7 => cbRow7 lo
  | 0x8 => cbRow8 lo
  | 0x9 => cbRow9 lo
  | 0xA => cbRowA lo
  | 0xB => cbRowB lo
  | 0xC => cbRowC lo
  | 0xD => cbRowD lo
  | 0xE => cbRowE lo
  | _ => cbRowF lo

/-! ## The primary map (R118) -/

/-- The primary opcode map, row 0x0. -/
def primaryRow0 (lo : Nat) (n8 : Byte) (n16 : Addr) : Instr :=
  match lo with
  | 0x0 => .nop
  | 0x1 => .ldBcN16 n16
  | 0x2 => .ldAtBcA
  | 0x3 => .incBc
  | 0x4 => .incB
  | 0x5 => .decB
  | 0x6 => .ldBN8 n8
  | 0x7 => .rlca
  | 0x8 => .ldAtN16Sp n16
  | 0x9 => .addHlBc
  | 0xA => .ldAAtBc
  | 0xB => .decBc
  | 0xC => .incC
  | 0xD => .decC
  | 0xE => .ldCN8 n8
  | _ => .rrca

/-- The primary opcode map, row 0x1. -/
def primaryRow1 (lo : Nat) (n8 : Byte) (n16 : Addr) : Instr :=
  match lo with
  | 0x0 => .stop n8
  | 0x1 => .ldDeN16 n16
  | 0x2 => .ldAtDeA
  | 0x3 => .incDe
  | 0x4 => .incD
  | 0x5 => .decD
  | 0x6 => .ldDN8 n8
  | 0x7 => .rla
  | 0x8 => .jrE8 n8
  | 0x9 => .addHlDe
  | 0xA => .ldAAtDe
  | 0xB => .decDe
  | 0xC => .incE
  | 0xD => .decE
  | 0xE => .ldEN8 n8
  | _ => .rra

/-- The primary opcode map, row 0x2. -/
def primaryRow2 (lo : Nat) (n8 : Byte) (n16 : Addr) : Instr :=
  match lo with
  | 0x0 => .jrNzE8 n8
  | 0x1 => .ldHlN16 n16
  | 0x2 => .ldAtHlIncA
  | 0x3 => .incHl
  | 0x4 => .incH
  | 0x5 => .decH
  | 0x6 => .ldHN8 n8
  | 0x7 => .daa
  | 0x8 => .jrZE8 n8
  | 0x9 => .addHlHl
  | 0xA => .ldAAtHlInc
  | 0xB => .decHl
  | 0xC => .incL
  | 0xD => .decL
  | 0xE => .ldLN8 n8
  | _ => .cpl

/-- The primary opcode map, row 0x3. -/
def primaryRow3 (lo : Nat) (n8 : Byte) (n16 : Addr) : Instr :=
  match lo with
  | 0x0 => .jrNcE8 n8
  | 0x1 => .ldSpN16 n16
  | 0x2 => .ldAtHlDecA
  | 0x3 => .incSp
  | 0x4 => .incAtHl
  | 0x5 => .decAtHl
  | 0x6 => .ldAtHlN8 n8
  | 0x7 => .scf
  | 0x8 => .jrCE8 n8
  | 0x9 => .addHlSp
  | 0xA => .ldAAtHlDec
  | 0xB => .decSp
  | 0xC => .incA
  | 0xD => .decA
  | 0xE => .ldAN8 n8
  | _ => .ccf

/-- The primary opcode map, row 0x4. -/
def primaryRow4 (lo : Nat) : Instr :=
  match lo with
  | 0x0 => .ldBB
  | 0x1 => .ldBC
  | 0x2 => .ldBD
  | 0x3 => .ldBE
  | 0x4 => .ldBH
  | 0x5 => .ldBL
  | 0x6 => .ldBAtHl
  | 0x7 => .ldBA
  | 0x8 => .ldCB
  | 0x9 => .ldCC
  | 0xA => .ldCD
  | 0xB => .ldCE
  | 0xC => .ldCH
  | 0xD => .ldCL
  | 0xE => .ldCAtHl
  | _ => .ldCA

/-- The primary opcode map, row 0x5. -/
def primaryRow5 (lo : Nat) : Instr :=
  match lo with
  | 0x0 => .ldDB
  | 0x1 => .ldDC
  | 0x2 => .ldDD
  | 0x3 => .ldDE
  | 0x4 => .ldDH
  | 0x5 => .ldDL
  | 0x6 => .ldDAtHl
  | 0x7 => .ldDA
  | 0x8 => .ldEB
  | 0x9 => .ldEC
  | 0xA => .ldED
  | 0xB => .ldEE
  | 0xC => .ldEH
  | 0xD => .ldEL
  | 0xE => .ldEAtHl
  | _ => .ldEA

/-- The primary opcode map, row 0x6. -/
def primaryRow6 (lo : Nat) : Instr :=
  match lo with
  | 0x0 => .ldHB
  | 0x1 => .ldHC
  | 0x2 => .ldHD
  | 0x3 => .ldHE
  | 0x4 => .ldHH
  | 0x5 => .ldHL
  | 0x6 => .ldHAtHl
  | 0x7 => .ldHA
  | 0x8 => .ldLB
  | 0x9 => .ldLC
  | 0xA => .ldLD
  | 0xB => .ldLE
  | 0xC => .ldLH
  | 0xD => .ldLL
  | 0xE => .ldLAtHl
  | _ => .ldLA

/-- The primary opcode map, row 0x7. -/
def primaryRow7 (lo : Nat) : Instr :=
  match lo with
  | 0x0 => .ldAtHlB
  | 0x1 => .ldAtHlC
  | 0x2 => .ldAtHlD
  | 0x3 => .ldAtHlE
  | 0x4 => .ldAtHlH
  | 0x5 => .ldAtHlL
  | 0x6 => .halt
  | 0x7 => .ldAtHlA
  | 0x8 => .ldAB
  | 0x9 => .ldAC
  | 0xA => .ldAD
  | 0xB => .ldAE
  | 0xC => .ldAH
  | 0xD => .ldAL
  | 0xE => .ldAAtHl
  | _ => .ldAA

/-- The primary opcode map, row 0x8. -/
def primaryRow8 (lo : Nat) : Instr :=
  match lo with
  | 0x0 => .addAB
  | 0x1 => .addAC
  | 0x2 => .addAD
  | 0x3 => .addAE
  | 0x4 => .addAH
  | 0x5 => .addAL
  | 0x6 => .addAAtHl
  | 0x7 => .addAA
  | 0x8 => .adcAB
  | 0x9 => .adcAC
  | 0xA => .adcAD
  | 0xB => .adcAE
  | 0xC => .adcAH
  | 0xD => .adcAL
  | 0xE => .adcAAtHl
  | _ => .adcAA

/-- The primary opcode map, row 0x9. -/
def primaryRow9 (lo : Nat) : Instr :=
  match lo with
  | 0x0 => .subB
  | 0x1 => .subC
  | 0x2 => .subD
  | 0x3 => .subE
  | 0x4 => .subH
  | 0x5 => .subL
  | 0x6 => .subAtHl
  | 0x7 => .subA
  | 0x8 => .sbcAB
  | 0x9 => .sbcAC
  | 0xA => .sbcAD
  | 0xB => .sbcAE
  | 0xC => .sbcAH
  | 0xD => .sbcAL
  | 0xE => .sbcAAtHl
  | _ => .sbcAA

/-- The primary opcode map, row 0xA. -/
def primaryRowA (lo : Nat) : Instr :=
  match lo with
  | 0x0 => .andB
  | 0x1 => .andC
  | 0x2 => .andD
  | 0x3 => .andE
  | 0x4 => .andH
  | 0x5 => .andL
  | 0x6 => .andAtHl
  | 0x7 => .andA
  | 0x8 => .xorB
  | 0x9 => .xorC
  | 0xA => .xorD
  | 0xB => .xorE
  | 0xC => .xorH
  | 0xD => .xorL
  | 0xE => .xorAtHl
  | _ => .xorA

/-- The primary opcode map, row 0xB. -/
def primaryRowB (lo : Nat) : Instr :=
  match lo with
  | 0x0 => .orB
  | 0x1 => .orC
  | 0x2 => .orD
  | 0x3 => .orE
  | 0x4 => .orH
  | 0x5 => .orL
  | 0x6 => .orAtHl
  | 0x7 => .orA
  | 0x8 => .cpB
  | 0x9 => .cpC
  | 0xA => .cpD
  | 0xB => .cpE
  | 0xC => .cpH
  | 0xD => .cpL
  | 0xE => .cpAtHl
  | _ => .cpA

/-- The primary opcode map, row 0xC. -/
def primaryRowC (lo : Nat) (n8 : Byte) (n16 : Addr) : Instr :=
  match lo with
  | 0x0 => .retNz
  | 0x1 => .popBc
  | 0x2 => .jpNzN16 n16
  | 0x3 => .jpN16 n16
  | 0x4 => .callNzN16 n16
  | 0x5 => .pushBc
  | 0x6 => .addAN8 n8
  | 0x7 => .rst00
  | 0x8 => .retZ
  | 0x9 => .ret
  | 0xA => .jpZN16 n16
  | 0xB => .prefixCb n8
  | 0xC => .callZN16 n16
  | 0xD => .callN16 n16
  | 0xE => .adcAN8 n8
  | _ => .rst08

/-- The primary opcode map, row 0xD. -/
def primaryRowD (lo : Nat) (n8 : Byte) (n16 : Addr) : Instr :=
  match lo with
  | 0x0 => .retNc
  | 0x1 => .popDe
  | 0x2 => .jpNcN16 n16
  | 0x3 => .undefD3
  | 0x4 => .callNcN16 n16
  | 0x5 => .pushDe
  | 0x6 => .subN8 n8
  | 0x7 => .rst10
  | 0x8 => .retC
  | 0x9 => .reti
  | 0xA => .jpCN16 n16
  | 0xB => .undefDB
  | 0xC => .callCN16 n16
  | 0xD => .undefDD
  | 0xE => .sbcAN8 n8
  | _ => .rst18

/-- The primary opcode map, row 0xE. -/
def primaryRowE (lo : Nat) (n8 : Byte) (n16 : Addr) : Instr :=
  match lo with
  | 0x0 => .ldhAtA8A n8
  | 0x1 => .popHl
  | 0x2 => .ldAtCA
  | 0x3 => .undefE3
  | 0x4 => .undefE4
  | 0x5 => .pushHl
  | 0x6 => .andN8 n8
  | 0x7 => .rst20
  | 0x8 => .addSpE8 n8
  | 0x9 => .jpHl
  | 0xA => .ldAtN16A n16
  | 0xB => .undefEB
  | 0xC => .undefEC
  | 0xD => .undefED
  | 0xE => .xorN8 n8
  | _ => .rst28

/-- The primary opcode map, row 0xF. -/
def primaryRowF (lo : Nat) (n8 : Byte) (n16 : Addr) : Instr :=
  match lo with
  | 0x0 => .ldhAAtA8 n8
  | 0x1 => .popAf
  | 0x2 => .ldAAtC
  | 0x3 => .di
  | 0x4 => .undefF4
  | 0x5 => .pushAf
  | 0x6 => .orN8 n8
  | 0x7 => .rst30
  | 0x8 => .ldHlSpE8 n8
  | 0x9 => .ldSpHl
  | 0xA => .ldAAtN16 n16
  | 0xB => .ei
  | 0xC => .undefFC
  | 0xD => .undefFD
  | 0xE => .cpN8 n8
  | _ => .rst38

/-- The row of the primary map for the opcode `b0`, with `n8` the byte and `n16` the two bytes after
it (R110). -/
def decodePrimary (b0 n8 : Byte) (n16 : Addr) : Instr :=
  let lo := b0.toNat % 16
  match b0.toNat / 16 with
  | 0x0 => primaryRow0 lo n8 n16
  | 0x1 => primaryRow1 lo n8 n16
  | 0x2 => primaryRow2 lo n8 n16
  | 0x3 => primaryRow3 lo n8 n16
  | 0x4 => primaryRow4 lo
  | 0x5 => primaryRow5 lo
  | 0x6 => primaryRow6 lo
  | 0x7 => primaryRow7 lo
  | 0x8 => primaryRow8 lo
  | 0x9 => primaryRow9 lo
  | 0xA => primaryRowA lo
  | 0xB => primaryRowB lo
  | 0xC => primaryRowC lo n8 n16
  | 0xD => primaryRowD lo n8 n16
  | 0xE => primaryRowE lo n8 n16
  | _ => primaryRowF lo n8 n16

/-- `decode` of R119 as a function of the bytes at the address, the next and the one after: the prefix
row stands for the prefixed row its second byte selects (R116). -/
def decodeParts (b0 b1 b2 : Byte) : Instr :=
  match decodePrimary b0 b1 (pack b1 b2) with
  | .prefixCb cbop => decodeCb cbop
  | i => i

/-- Why a list of bytes is no instruction: every byte decodes (R119), so only for want of bytes. -/
inductive DecodeError where
  /-- The list is empty. -/
  | noBytes
  /-- The list ends before the operand bytes of the opcode. -/
  | truncated (opcode : Byte)
  deriving DecidableEq, Repr

/-- The instruction at the head of a list of bytes and the bytes after it (R102, R119). -/
def decode (bytes : List Byte) : Except DecodeError (Instr × List Byte) :=
  match bytes with
  | [] => .error .noBytes
  | b0 :: rest =>
    if instrLength b0 = 1 then .ok (decodeParts b0 0#8 0#8, rest)
    else if instrLength b0 = 2 then
      match rest with
      | b1 :: rest => .ok (decodeParts b0 b1 0#8, rest)
      | [] => .error (.truncated b0)
    else
      match rest with
      | b1 :: b2 :: rest => .ok (decodeParts b0 b1 b2, rest)
      | _ => .error (.truncated b0)

/-! ## Operand fields and forms -/

/-- The code of a register in the field `r` (R105). -/
def Reg8.code : Reg8 → BitVec 3
  | .b => 0#3 | .c => 1#3 | .d => 2#3 | .e => 3#3 | .h => 4#3 | .l => 5#3 | .a => 7#3

/-- The code of `(HL)` in the field `r` (R105). -/
def hlCode : BitVec 3 := 6#3

/-- The code of a pair in the field `dd` (R106). -/
def Pair.code : Pair → BitVec 2
  | .bc => 0#2 | .de => 1#2 | .hl => 2#2 | .sp => 3#2

/-- The code of a pair in the field `qq` (R107). -/
def StackPair.code : StackPair → BitVec 2
  | .bc => 0#2 | .de => 1#2 | .hl => 2#2 | .af => 3#2

/-- The code of a condition in the field `cc` (R108). -/
def Cond.code : Cond → BitVec 2
  | .nz => 0#2 | .z => 1#2 | .nc => 2#2 | .c => 3#2

/-- The code of an operation in the field `alu` (R109). -/
def AluOp.code : AluOp → BitVec 3
  | .add => 0#3 | .adc => 1#3 | .sub => 2#3 | .sbc => 3#3
  | .and => 4#3 | .xor => 5#3 | .or => 6#3 | .cp => 7#3

/-- The code of a rotate or shift in `cbop[5:3]` (R116). -/
def RotOp.code : RotOp → BitVec 3
  | .rlc => 0#3 | .rrc => 1#3 | .rl => 2#3 | .rr => 3#3
  | .sla => 4#3 | .sra => 5#3 | .swap => 6#3 | .srl => 7#3

/-- A bit number or RST index in its 3-bit field (R104). -/
def indexCode (n : Fin 8) : BitVec 3 := BitVec.ofNat 3 n.val

/-- The register of a 3-bit field, none for `(HL)` (R105). -/
def reg8OfCode (z : Nat) : Option Reg8 :=
  match z with
  | 0 => some .b | 1 => some .c | 2 => some .d | 3 => some .e
  | 4 => some .h | 5 => some .l | 6 => none | _ => some .a

/-- The rotate or shift of a 3-bit field (R116). -/
def rotOpOfCode (y : Nat) : RotOp :=
  match y with
  | 0 => .rlc | 1 => .rrc | 2 => .rl | 3 => .rr | 4 => .sla | 5 => .sra | 6 => .swap | _ => .srl

/-- The prefixed instruction by the fields x, y, z of the byte after 0xCB (R116). -/
def cbForm (cbop : Byte) : CbForm :=
  let y := cbop.toNat / 8 % 8
  let bit : Fin 8 := ⟨y, Nat.mod_lt _ (by decide)⟩
  match cbop.toNat / 64, reg8OfCode (cbop.toNat % 8) with
  | 0, some r => .rotReg (rotOpOfCode y) r
  | 0, none => .rotHl (rotOpOfCode y)
  | 1, some r => .bitReg bit r
  | 1, none => .bitHl bit
  | 2, some r => .resReg bit r
  | 2, none => .resHl bit
  | _, some r => .setReg bit r
  | _, none => .setHl bit

/-- The form of each row: its rule of 40_load8.md to 47_system.md at its operand fields. -/
def Instr.form : Instr → Form
  | .nop => .nop
  | .ldBcN16 n16 => .ldPairImm .bc n16
  | .ldAtBcA => .ldBcA
  | .incBc => .incPair .bc
  | .incB => .incReg .b
  | .decB => .decReg .b
  | .ldBN8 n8 => .ldRegImm .b n8
  | .rlca => .rlca
  | .ldAtN16Sp n16 => .ldAbsSp n16
  | .addHlBc => .addHl .bc
  | .ldAAtBc => .ldABc
  | .decBc => .decPair .bc
  | .incC => .incReg .c
  | .decC => .decReg .c
  | .ldCN8 n8 => .ldRegImm .c n8
  | .rrca => .rrca
  | .stop n8 => .stop n8
  | .ldDeN16 n16 => .ldPairImm .de n16
  | .ldAtDeA => .ldDeA
  | .incDe => .incPair .de
  | .incD => .incReg .d
  | .decD => .decReg .d
  | .ldDN8 n8 => .ldRegImm .d n8
  | .rla => .rla
  | .jrE8 e8 => .jr e8
  | .addHlDe => .addHl .de
  | .ldAAtDe => .ldADe
  | .decDe => .decPair .de
  | .incE => .incReg .e
  | .decE => .decReg .e
  | .ldEN8 n8 => .ldRegImm .e n8
  | .rra => .rra
  | .jrNzE8 e8 => .jrCond .nz e8
  | .ldHlN16 n16 => .ldPairImm .hl n16
  | .ldAtHlIncA => .ldHlIncA
  | .incHl => .incPair .hl
  | .incH => .incReg .h
  | .decH => .decReg .h
  | .ldHN8 n8 => .ldRegImm .h n8
  | .daa => .daa
  | .jrZE8 e8 => .jrCond .z e8
  | .addHlHl => .addHl .hl
  | .ldAAtHlInc => .ldAHlInc
  | .decHl => .decPair .hl
  | .incL => .incReg .l
  | .decL => .decReg .l
  | .ldLN8 n8 => .ldRegImm .l n8
  | .cpl => .cpl
  | .jrNcE8 e8 => .jrCond .nc e8
  | .ldSpN16 n16 => .ldPairImm .sp n16
  | .ldAtHlDecA => .ldHlDecA
  | .incSp => .incPair .sp
  | .incAtHl => .incAtHl
  | .decAtHl => .decAtHl
  | .ldAtHlN8 n8 => .ldHlImm n8
  | .scf => .scf
  | .jrCE8 e8 => .jrCond .c e8
  | .addHlSp => .addHl .sp
  | .ldAAtHlDec => .ldAHlDec
  | .decSp => .decPair .sp
  | .incA => .incReg .a
  | .decA => .decReg .a
  | .ldAN8 n8 => .ldRegImm .a n8
  | .ccf => .ccf
  | .ldBB => .ldRegReg .b .b
  | .ldBC => .ldRegReg .b .c
  | .ldBD => .ldRegReg .b .d
  | .ldBE => .ldRegReg .b .e
  | .ldBH => .ldRegReg .b .h
  | .ldBL => .ldRegReg .b .l
  | .ldBAtHl => .ldRegHl .b
  | .ldBA => .ldRegReg .b .a
  | .ldCB => .ldRegReg .c .b
  | .ldCC => .ldRegReg .c .c
  | .ldCD => .ldRegReg .c .d
  | .ldCE => .ldRegReg .c .e
  | .ldCH => .ldRegReg .c .h
  | .ldCL => .ldRegReg .c .l
  | .ldCAtHl => .ldRegHl .c
  | .ldCA => .ldRegReg .c .a
  | .ldDB => .ldRegReg .d .b
  | .ldDC => .ldRegReg .d .c
  | .ldDD => .ldRegReg .d .d
  | .ldDE => .ldRegReg .d .e
  | .ldDH => .ldRegReg .d .h
  | .ldDL => .ldRegReg .d .l
  | .ldDAtHl => .ldRegHl .d
  | .ldDA => .ldRegReg .d .a
  | .ldEB => .ldRegReg .e .b
  | .ldEC => .ldRegReg .e .c
  | .ldED => .ldRegReg .e .d
  | .ldEE => .ldRegReg .e .e
  | .ldEH => .ldRegReg .e .h
  | .ldEL => .ldRegReg .e .l
  | .ldEAtHl => .ldRegHl .e
  | .ldEA => .ldRegReg .e .a
  | .ldHB => .ldRegReg .h .b
  | .ldHC => .ldRegReg .h .c
  | .ldHD => .ldRegReg .h .d
  | .ldHE => .ldRegReg .h .e
  | .ldHH => .ldRegReg .h .h
  | .ldHL => .ldRegReg .h .l
  | .ldHAtHl => .ldRegHl .h
  | .ldHA => .ldRegReg .h .a
  | .ldLB => .ldRegReg .l .b
  | .ldLC => .ldRegReg .l .c
  | .ldLD => .ldRegReg .l .d
  | .ldLE => .ldRegReg .l .e
  | .ldLH => .ldRegReg .l .h
  | .ldLL => .ldRegReg .l .l
  | .ldLAtHl => .ldRegHl .l
  | .ldLA => .ldRegReg .l .a
  | .ldAtHlB => .ldHlReg .b
  | .ldAtHlC => .ldHlReg .c
  | .ldAtHlD => .ldHlReg .d
  | .ldAtHlE => .ldHlReg .e
  | .ldAtHlH => .ldHlReg .h
  | .ldAtHlL => .ldHlReg .l
  | .halt => .halt
  | .ldAtHlA => .ldHlReg .a
  | .ldAB => .ldRegReg .a .b
  | .ldAC => .ldRegReg .a .c
  | .ldAD => .ldRegReg .a .d
  | .ldAE => .ldRegReg .a .e
  | .ldAH => .ldRegReg .a .h
  | .ldAL => .ldRegReg .a .l
  | .ldAAtHl => .ldRegHl .a
  | .ldAA => .ldRegReg .a .a
  | .addAB => .aluReg .add .b
  | .addAC => .aluReg .add .c
  | .addAD => .aluReg .add .d
  | .addAE => .aluReg .add .e
  | .addAH => .aluReg .add .h
  | .addAL => .aluReg .add .l
  | .addAAtHl => .aluHl .add
  | .addAA => .aluReg .add .a
  | .adcAB => .aluReg .adc .b
  | .adcAC => .aluReg .adc .c
  | .adcAD => .aluReg .adc .d
  | .adcAE => .aluReg .adc .e
  | .adcAH => .aluReg .adc .h
  | .adcAL => .aluReg .adc .l
  | .adcAAtHl => .aluHl .adc
  | .adcAA => .aluReg .adc .a
  | .subB => .aluReg .sub .b
  | .subC => .aluReg .sub .c
  | .subD => .aluReg .sub .d
  | .subE => .aluReg .sub .e
  | .subH => .aluReg .sub .h
  | .subL => .aluReg .sub .l
  | .subAtHl => .aluHl .sub
  | .subA => .aluReg .sub .a
  | .sbcAB => .aluReg .sbc .b
  | .sbcAC => .aluReg .sbc .c
  | .sbcAD => .aluReg .sbc .d
  | .sbcAE => .aluReg .sbc .e
  | .sbcAH => .aluReg .sbc .h
  | .sbcAL => .aluReg .sbc .l
  | .sbcAAtHl => .aluHl .sbc
  | .sbcAA => .aluReg .sbc .a
  | .andB => .aluReg .and .b
  | .andC => .aluReg .and .c
  | .andD => .aluReg .and .d
  | .andE => .aluReg .and .e
  | .andH => .aluReg .and .h
  | .andL => .aluReg .and .l
  | .andAtHl => .aluHl .and
  | .andA => .aluReg .and .a
  | .xorB => .aluReg .xor .b
  | .xorC => .aluReg .xor .c
  | .xorD => .aluReg .xor .d
  | .xorE => .aluReg .xor .e
  | .xorH => .aluReg .xor .h
  | .xorL => .aluReg .xor .l
  | .xorAtHl => .aluHl .xor
  | .xorA => .aluReg .xor .a
  | .orB => .aluReg .or .b
  | .orC => .aluReg .or .c
  | .orD => .aluReg .or .d
  | .orE => .aluReg .or .e
  | .orH => .aluReg .or .h
  | .orL => .aluReg .or .l
  | .orAtHl => .aluHl .or
  | .orA => .aluReg .or .a
  | .cpB => .aluReg .cp .b
  | .cpC => .aluReg .cp .c
  | .cpD => .aluReg .cp .d
  | .cpE => .aluReg .cp .e
  | .cpH => .aluReg .cp .h
  | .cpL => .aluReg .cp .l
  | .cpAtHl => .aluHl .cp
  | .cpA => .aluReg .cp .a
  | .retNz => .retCond .nz
  | .popBc => .pop .bc
  | .jpNzN16 n16 => .jpCond .nz n16
  | .jpN16 n16 => .jp n16
  | .callNzN16 n16 => .callCond .nz n16
  | .pushBc => .push .bc
  | .addAN8 n8 => .aluImm .add n8
  | .rst00 => .rst 0
  | .retZ => .retCond .z
  | .ret => .ret
  | .jpZN16 n16 => .jpCond .z n16
  | .prefixCb cbop => .cb (cbForm cbop)
  | .callZN16 n16 => .callCond .z n16
  | .callN16 n16 => .call n16
  | .adcAN8 n8 => .aluImm .adc n8
  | .rst08 => .rst 1
  | .retNc => .retCond .nc
  | .popDe => .pop .de
  | .jpNcN16 n16 => .jpCond .nc n16
  | .undefD3 => .undefined 0xD3#8
  | .callNcN16 n16 => .callCond .nc n16
  | .pushDe => .push .de
  | .subN8 n8 => .aluImm .sub n8
  | .rst10 => .rst 2
  | .retC => .retCond .c
  | .reti => .reti
  | .jpCN16 n16 => .jpCond .c n16
  | .undefDB => .undefined 0xDB#8
  | .callCN16 n16 => .callCond .c n16
  | .undefDD => .undefined 0xDD#8
  | .sbcAN8 n8 => .aluImm .sbc n8
  | .rst18 => .rst 3
  | .ldhAtA8A a8 => .ldHighA a8
  | .popHl => .pop .hl
  | .ldAtCA => .ldHighCA
  | .undefE3 => .undefined 0xE3#8
  | .undefE4 => .undefined 0xE4#8
  | .pushHl => .push .hl
  | .andN8 n8 => .aluImm .and n8
  | .rst20 => .rst 4
  | .addSpE8 e8 => .addSp e8
  | .jpHl => .jpHl
  | .ldAtN16A n16 => .ldAbsA n16
  | .undefEB => .undefined 0xEB#8
  | .undefEC => .undefined 0xEC#8
  | .undefED => .undefined 0xED#8
  | .xorN8 n8 => .aluImm .xor n8
  | .rst28 => .rst 5
  | .ldhAAtA8 a8 => .ldAHigh a8
  | .popAf => .pop .af
  | .ldAAtC => .ldAHighC
  | .di => .di
  | .undefF4 => .undefined 0xF4#8
  | .pushAf => .push .af
  | .orN8 n8 => .aluImm .or n8
  | .rst30 => .rst 6
  | .ldHlSpE8 e8 => .ldHlSpOff e8
  | .ldSpHl => .ldSpHl
  | .ldAAtN16 n16 => .ldAAbs n16
  | .ei => .ei
  | .undefFC => .undefined 0xFC#8
  | .undefFD => .undefined 0xFD#8
  | .cpN8 n8 => .aluImm .cp n8
  | .rst38 => .rst 7
  | .rlcB => .cb (.rotReg .rlc .b)
  | .rlcC => .cb (.rotReg .rlc .c)
  | .rlcD => .cb (.rotReg .rlc .d)
  | .rlcE => .cb (.rotReg .rlc .e)
  | .rlcH => .cb (.rotReg .rlc .h)
  | .rlcL => .cb (.rotReg .rlc .l)
  | .rlcAtHl => .cb (.rotHl .rlc)
  | .rlcA => .cb (.rotReg .rlc .a)
  | .rrcB => .cb (.rotReg .rrc .b)
  | .rrcC => .cb (.rotReg .rrc .c)
  | .rrcD => .cb (.rotReg .rrc .d)
  | .rrcE => .cb (.rotReg .rrc .e)
  | .rrcH => .cb (.rotReg .rrc .h)
  | .rrcL => .cb (.rotReg .rrc .l)
  | .rrcAtHl => .cb (.rotHl .rrc)
  | .rrcA => .cb (.rotReg .rrc .a)
  | .rlB => .cb (.rotReg .rl .b)
  | .rlC => .cb (.rotReg .rl .c)
  | .rlD => .cb (.rotReg .rl .d)
  | .rlE => .cb (.rotReg .rl .e)
  | .rlH => .cb (.rotReg .rl .h)
  | .rlL => .cb (.rotReg .rl .l)
  | .rlAtHl => .cb (.rotHl .rl)
  | .rlA => .cb (.rotReg .rl .a)
  | .rrB => .cb (.rotReg .rr .b)
  | .rrC => .cb (.rotReg .rr .c)
  | .rrD => .cb (.rotReg .rr .d)
  | .rrE => .cb (.rotReg .rr .e)
  | .rrH => .cb (.rotReg .rr .h)
  | .rrL => .cb (.rotReg .rr .l)
  | .rrAtHl => .cb (.rotHl .rr)
  | .rrA => .cb (.rotReg .rr .a)
  | .slaB => .cb (.rotReg .sla .b)
  | .slaC => .cb (.rotReg .sla .c)
  | .slaD => .cb (.rotReg .sla .d)
  | .slaE => .cb (.rotReg .sla .e)
  | .slaH => .cb (.rotReg .sla .h)
  | .slaL => .cb (.rotReg .sla .l)
  | .slaAtHl => .cb (.rotHl .sla)
  | .slaA => .cb (.rotReg .sla .a)
  | .sraB => .cb (.rotReg .sra .b)
  | .sraC => .cb (.rotReg .sra .c)
  | .sraD => .cb (.rotReg .sra .d)
  | .sraE => .cb (.rotReg .sra .e)
  | .sraH => .cb (.rotReg .sra .h)
  | .sraL => .cb (.rotReg .sra .l)
  | .sraAtHl => .cb (.rotHl .sra)
  | .sraA => .cb (.rotReg .sra .a)
  | .swapB => .cb (.rotReg .swap .b)
  | .swapC => .cb (.rotReg .swap .c)
  | .swapD => .cb (.rotReg .swap .d)
  | .swapE => .cb (.rotReg .swap .e)
  | .swapH => .cb (.rotReg .swap .h)
  | .swapL => .cb (.rotReg .swap .l)
  | .swapAtHl => .cb (.rotHl .swap)
  | .swapA => .cb (.rotReg .swap .a)
  | .srlB => .cb (.rotReg .srl .b)
  | .srlC => .cb (.rotReg .srl .c)
  | .srlD => .cb (.rotReg .srl .d)
  | .srlE => .cb (.rotReg .srl .e)
  | .srlH => .cb (.rotReg .srl .h)
  | .srlL => .cb (.rotReg .srl .l)
  | .srlAtHl => .cb (.rotHl .srl)
  | .srlA => .cb (.rotReg .srl .a)
  | .bit0B => .cb (.bitReg 0 .b)
  | .bit0C => .cb (.bitReg 0 .c)
  | .bit0D => .cb (.bitReg 0 .d)
  | .bit0E => .cb (.bitReg 0 .e)
  | .bit0H => .cb (.bitReg 0 .h)
  | .bit0L => .cb (.bitReg 0 .l)
  | .bit0AtHl => .cb (.bitHl 0)
  | .bit0A => .cb (.bitReg 0 .a)
  | .bit1B => .cb (.bitReg 1 .b)
  | .bit1C => .cb (.bitReg 1 .c)
  | .bit1D => .cb (.bitReg 1 .d)
  | .bit1E => .cb (.bitReg 1 .e)
  | .bit1H => .cb (.bitReg 1 .h)
  | .bit1L => .cb (.bitReg 1 .l)
  | .bit1AtHl => .cb (.bitHl 1)
  | .bit1A => .cb (.bitReg 1 .a)
  | .bit2B => .cb (.bitReg 2 .b)
  | .bit2C => .cb (.bitReg 2 .c)
  | .bit2D => .cb (.bitReg 2 .d)
  | .bit2E => .cb (.bitReg 2 .e)
  | .bit2H => .cb (.bitReg 2 .h)
  | .bit2L => .cb (.bitReg 2 .l)
  | .bit2AtHl => .cb (.bitHl 2)
  | .bit2A => .cb (.bitReg 2 .a)
  | .bit3B => .cb (.bitReg 3 .b)
  | .bit3C => .cb (.bitReg 3 .c)
  | .bit3D => .cb (.bitReg 3 .d)
  | .bit3E => .cb (.bitReg 3 .e)
  | .bit3H => .cb (.bitReg 3 .h)
  | .bit3L => .cb (.bitReg 3 .l)
  | .bit3AtHl => .cb (.bitHl 3)
  | .bit3A => .cb (.bitReg 3 .a)
  | .bit4B => .cb (.bitReg 4 .b)
  | .bit4C => .cb (.bitReg 4 .c)
  | .bit4D => .cb (.bitReg 4 .d)
  | .bit4E => .cb (.bitReg 4 .e)
  | .bit4H => .cb (.bitReg 4 .h)
  | .bit4L => .cb (.bitReg 4 .l)
  | .bit4AtHl => .cb (.bitHl 4)
  | .bit4A => .cb (.bitReg 4 .a)
  | .bit5B => .cb (.bitReg 5 .b)
  | .bit5C => .cb (.bitReg 5 .c)
  | .bit5D => .cb (.bitReg 5 .d)
  | .bit5E => .cb (.bitReg 5 .e)
  | .bit5H => .cb (.bitReg 5 .h)
  | .bit5L => .cb (.bitReg 5 .l)
  | .bit5AtHl => .cb (.bitHl 5)
  | .bit5A => .cb (.bitReg 5 .a)
  | .bit6B => .cb (.bitReg 6 .b)
  | .bit6C => .cb (.bitReg 6 .c)
  | .bit6D => .cb (.bitReg 6 .d)
  | .bit6E => .cb (.bitReg 6 .e)
  | .bit6H => .cb (.bitReg 6 .h)
  | .bit6L => .cb (.bitReg 6 .l)
  | .bit6AtHl => .cb (.bitHl 6)
  | .bit6A => .cb (.bitReg 6 .a)
  | .bit7B => .cb (.bitReg 7 .b)
  | .bit7C => .cb (.bitReg 7 .c)
  | .bit7D => .cb (.bitReg 7 .d)
  | .bit7E => .cb (.bitReg 7 .e)
  | .bit7H => .cb (.bitReg 7 .h)
  | .bit7L => .cb (.bitReg 7 .l)
  | .bit7AtHl => .cb (.bitHl 7)
  | .bit7A => .cb (.bitReg 7 .a)
  | .res0B => .cb (.resReg 0 .b)
  | .res0C => .cb (.resReg 0 .c)
  | .res0D => .cb (.resReg 0 .d)
  | .res0E => .cb (.resReg 0 .e)
  | .res0H => .cb (.resReg 0 .h)
  | .res0L => .cb (.resReg 0 .l)
  | .res0AtHl => .cb (.resHl 0)
  | .res0A => .cb (.resReg 0 .a)
  | .res1B => .cb (.resReg 1 .b)
  | .res1C => .cb (.resReg 1 .c)
  | .res1D => .cb (.resReg 1 .d)
  | .res1E => .cb (.resReg 1 .e)
  | .res1H => .cb (.resReg 1 .h)
  | .res1L => .cb (.resReg 1 .l)
  | .res1AtHl => .cb (.resHl 1)
  | .res1A => .cb (.resReg 1 .a)
  | .res2B => .cb (.resReg 2 .b)
  | .res2C => .cb (.resReg 2 .c)
  | .res2D => .cb (.resReg 2 .d)
  | .res2E => .cb (.resReg 2 .e)
  | .res2H => .cb (.resReg 2 .h)
  | .res2L => .cb (.resReg 2 .l)
  | .res2AtHl => .cb (.resHl 2)
  | .res2A => .cb (.resReg 2 .a)
  | .res3B => .cb (.resReg 3 .b)
  | .res3C => .cb (.resReg 3 .c)
  | .res3D => .cb (.resReg 3 .d)
  | .res3E => .cb (.resReg 3 .e)
  | .res3H => .cb (.resReg 3 .h)
  | .res3L => .cb (.resReg 3 .l)
  | .res3AtHl => .cb (.resHl 3)
  | .res3A => .cb (.resReg 3 .a)
  | .res4B => .cb (.resReg 4 .b)
  | .res4C => .cb (.resReg 4 .c)
  | .res4D => .cb (.resReg 4 .d)
  | .res4E => .cb (.resReg 4 .e)
  | .res4H => .cb (.resReg 4 .h)
  | .res4L => .cb (.resReg 4 .l)
  | .res4AtHl => .cb (.resHl 4)
  | .res4A => .cb (.resReg 4 .a)
  | .res5B => .cb (.resReg 5 .b)
  | .res5C => .cb (.resReg 5 .c)
  | .res5D => .cb (.resReg 5 .d)
  | .res5E => .cb (.resReg 5 .e)
  | .res5H => .cb (.resReg 5 .h)
  | .res5L => .cb (.resReg 5 .l)
  | .res5AtHl => .cb (.resHl 5)
  | .res5A => .cb (.resReg 5 .a)
  | .res6B => .cb (.resReg 6 .b)
  | .res6C => .cb (.resReg 6 .c)
  | .res6D => .cb (.resReg 6 .d)
  | .res6E => .cb (.resReg 6 .e)
  | .res6H => .cb (.resReg 6 .h)
  | .res6L => .cb (.resReg 6 .l)
  | .res6AtHl => .cb (.resHl 6)
  | .res6A => .cb (.resReg 6 .a)
  | .res7B => .cb (.resReg 7 .b)
  | .res7C => .cb (.resReg 7 .c)
  | .res7D => .cb (.resReg 7 .d)
  | .res7E => .cb (.resReg 7 .e)
  | .res7H => .cb (.resReg 7 .h)
  | .res7L => .cb (.resReg 7 .l)
  | .res7AtHl => .cb (.resHl 7)
  | .res7A => .cb (.resReg 7 .a)
  | .set0B => .cb (.setReg 0 .b)
  | .set0C => .cb (.setReg 0 .c)
  | .set0D => .cb (.setReg 0 .d)
  | .set0E => .cb (.setReg 0 .e)
  | .set0H => .cb (.setReg 0 .h)
  | .set0L => .cb (.setReg 0 .l)
  | .set0AtHl => .cb (.setHl 0)
  | .set0A => .cb (.setReg 0 .a)
  | .set1B => .cb (.setReg 1 .b)
  | .set1C => .cb (.setReg 1 .c)
  | .set1D => .cb (.setReg 1 .d)
  | .set1E => .cb (.setReg 1 .e)
  | .set1H => .cb (.setReg 1 .h)
  | .set1L => .cb (.setReg 1 .l)
  | .set1AtHl => .cb (.setHl 1)
  | .set1A => .cb (.setReg 1 .a)
  | .set2B => .cb (.setReg 2 .b)
  | .set2C => .cb (.setReg 2 .c)
  | .set2D => .cb (.setReg 2 .d)
  | .set2E => .cb (.setReg 2 .e)
  | .set2H => .cb (.setReg 2 .h)
  | .set2L => .cb (.setReg 2 .l)
  | .set2AtHl => .cb (.setHl 2)
  | .set2A => .cb (.setReg 2 .a)
  | .set3B => .cb (.setReg 3 .b)
  | .set3C => .cb (.setReg 3 .c)
  | .set3D => .cb (.setReg 3 .d)
  | .set3E => .cb (.setReg 3 .e)
  | .set3H => .cb (.setReg 3 .h)
  | .set3L => .cb (.setReg 3 .l)
  | .set3AtHl => .cb (.setHl 3)
  | .set3A => .cb (.setReg 3 .a)
  | .set4B => .cb (.setReg 4 .b)
  | .set4C => .cb (.setReg 4 .c)
  | .set4D => .cb (.setReg 4 .d)
  | .set4E => .cb (.setReg 4 .e)
  | .set4H => .cb (.setReg 4 .h)
  | .set4L => .cb (.setReg 4 .l)
  | .set4AtHl => .cb (.setHl 4)
  | .set4A => .cb (.setReg 4 .a)
  | .set5B => .cb (.setReg 5 .b)
  | .set5C => .cb (.setReg 5 .c)
  | .set5D => .cb (.setReg 5 .d)
  | .set5E => .cb (.setReg 5 .e)
  | .set5H => .cb (.setReg 5 .h)
  | .set5L => .cb (.setReg 5 .l)
  | .set5AtHl => .cb (.setHl 5)
  | .set5A => .cb (.setReg 5 .a)
  | .set6B => .cb (.setReg 6 .b)
  | .set6C => .cb (.setReg 6 .c)
  | .set6D => .cb (.setReg 6 .d)
  | .set6E => .cb (.setReg 6 .e)
  | .set6H => .cb (.setReg 6 .h)
  | .set6L => .cb (.setReg 6 .l)
  | .set6AtHl => .cb (.setHl 6)
  | .set6A => .cb (.setReg 6 .a)
  | .set7B => .cb (.setReg 7 .b)
  | .set7C => .cb (.setReg 7 .c)
  | .set7D => .cb (.setReg 7 .d)
  | .set7E => .cb (.setReg 7 .e)
  | .set7H => .cb (.setReg 7 .h)
  | .set7L => .cb (.setReg 7 .l)
  | .set7AtHl => .cb (.setHl 7)
  | .set7A => .cb (.setReg 7 .a)

/-! ## The encoder -/

/-- The bytes after an opcode of format F3: the immediate, low byte first (R103, R110). -/
def imm16Bytes (n : Addr) : List Byte := [lowByte n, highByte n]

/-- The byte after 0xCB, by fields (R116). -/
def CbForm.byte : CbForm → Byte
  | .rotReg op r => 0b00#2 ++ op.code ++ r.code
  | .rotHl op => 0b00#2 ++ op.code ++ hlCode
  | .bitReg n r => 0b01#2 ++ indexCode n ++ r.code
  | .bitHl n => 0b01#2 ++ indexCode n ++ hlCode
  | .resReg n r => 0b10#2 ++ indexCode n ++ r.code
  | .resHl n => 0b10#2 ++ indexCode n ++ hlCode
  | .setReg n r => 0b11#2 ++ indexCode n ++ r.code
  | .setHl n => 0b11#2 ++ indexCode n ++ hlCode

/-- The bytes of each form, from the Encoding line of its rule. -/
def Form.bytes : Form → List Byte
  | .ldRegReg dst src => [0b01#2 ++ dst.code ++ src.code]
  | .ldRegImm dst n => [0b00#2 ++ dst.code ++ 0b110#3, n]
  | .ldRegHl dst => [0b01#2 ++ dst.code ++ hlCode]
  | .ldHlReg r => [0b01110#5 ++ r.code]
  | .ldHlImm n => [0x36#8, n]
  | .ldABc => [0x0A#8]
  | .ldADe => [0x1A#8]
  | .ldBcA => [0x02#8]
  | .ldDeA => [0x12#8]
  | .ldHlIncA => [0x22#8]
  | .ldHlDecA => [0x32#8]
  | .ldAHlInc => [0x2A#8]
  | .ldAHlDec => [0x3A#8]
  | .ldAAbs n => 0xFA#8 :: imm16Bytes n
  | .ldAbsA n => 0xEA#8 :: imm16Bytes n
  | .ldAHigh n => [0xF0#8, n]
  | .ldHighA n => [0xE0#8, n]
  | .ldAHighC => [0xF2#8]
  | .ldHighCA => [0xE2#8]
  | .ldPairImm p n => (0b00#2 ++ p.code ++ 0b0001#4) :: imm16Bytes n
  | .ldAbsSp n => 0x08#8 :: imm16Bytes n
  | .ldSpHl => [0xF9#8]
  | .ldHlSpOff n => [0xF8#8, n]
  | .push q => [0b11#2 ++ q.code ++ 0b0101#4]
  | .pop q => [0b11#2 ++ q.code ++ 0b0001#4]
  | .aluReg op r => [0b10#2 ++ op.code ++ r.code]
  | .aluHl op => [0b10#2 ++ op.code ++ hlCode]
  | .aluImm op n => [0b11#2 ++ op.code ++ 0b110#3, n]
  | .incReg r => [0b00#2 ++ r.code ++ 0b100#3]
  | .incAtHl => [0x34#8]
  | .decReg r => [0b00#2 ++ r.code ++ 0b101#3]
  | .decAtHl => [0x35#8]
  | .daa => [0x27#8]
  | .cpl => [0x2F#8]
  | .scf => [0x37#8]
  | .ccf => [0x3F#8]
  | .addHl p => [0b00#2 ++ p.code ++ 0b1001#4]
  | .incPair p => [0b00#2 ++ p.code ++ 0b0011#4]
  | .decPair p => [0b00#2 ++ p.code ++ 0b1011#4]
  | .addSp n => [0xE8#8, n]
  | .rlca => [0x07#8]
  | .rrca => [0x0F#8]
  | .rla => [0x17#8]
  | .rra => [0x1F#8]
  | .cb f => [0xCB#8, f.byte]
  | .jp n => 0xC3#8 :: imm16Bytes n
  | .jpCond cc n => (0b110#3 ++ cc.code ++ 0b010#3) :: imm16Bytes n
  | .jpHl => [0xE9#8]
  | .jr n => [0x18#8, n]
  | .jrCond cc n => [0b001#3 ++ cc.code ++ 0b000#3, n]
  | .call n => 0xCD#8 :: imm16Bytes n
  | .callCond cc n => (0b110#3 ++ cc.code ++ 0b100#3) :: imm16Bytes n
  | .rst t => [0b11#2 ++ indexCode t ++ 0b111#3]
  | .ret => [0xC9#8]
  | .retCond cc => [0b110#3 ++ cc.code ++ 0b000#3]
  | .reti => [0xD9#8]
  | .nop => [0x00#8]
  | .halt => [0x76#8]
  | .stop n => [0x10#8, n]
  | .di => [0xF3#8]
  | .ei => [0xFB#8]
  | .undefined b => [b]

/-- The bytes of an instruction, by its form. -/
def encode (i : Instr) : List Byte := i.form.bytes

/-! ## The words of spec/opcode_table.json -/

/-- The bytes of a table word, and zeros after them (the table gives operand bytes no bits). Bytes
stand with bit 0 of the word as bit 0 of the first byte. A prefixed row numbers its two bytes the
other way, "the 16-bit value byte0<<8 | byte1 (0xCB then the extended opcode)" (the row's note; log 12). -/
def tableBytes (nbits w : Nat) : List Byte :=
  let w := w % 2 ^ nbits
  if nbits = 16 ∧ w / 256 = 0xCB then [0xCB#8, BitVec.ofNat 8 (w % 256), 0#8]
  else [BitVec.ofNat 8 (w % 256), BitVec.ofNat 8 (w / 256 % 256), BitVec.ofNat 8 (w / 65536 % 256)]

/-- The instruction the decoder reads from a table word. -/
def decodeTableWord (nbits w : Nat) : Option Instr :=
  match decode (tableBytes nbits w) with
  | .ok (i, _) => some i
  | .error _ => none

end Sys2Proof
end

