-- ==== Sys2Proof/Machine/RotateShift.lean ====
section
/-! DEFINITION. Rotates, shifts and nibble swap (44_rotate_shift.md, R187 to R206). -/

namespace Sys2Proof.Machine

/-- The accumulator rotates: the shift of the prefixed form, but Z = 0 always (R187 to R190). -/
def rotA (op : RotOp) (s : State) : Result :=
  let o := rotOut op s.a s.flagC
  .next ((State.writeFlags false false false o.c { s with a := o.val }).tick 4)

/-- A prefixed rotate or shift of a register (R191, R193, R195, R197, R199, R201, R203, R205). -/
def rotReg (op : RotOp) (r : Reg8) (s : State) : Result :=
  let o := rotOut op (s.reg r) s.flagC
  .next (((s.setReg r o.val).rotFlags o).tick 8)

/-- A prefixed rotate or shift of the byte at HL (R192, R194, R196, R198, R200, R202, R204, R206). -/
def rotHl (op : RotOp) (s : State) : Result :=
  modifyHl s (fun v => (rotOut op v s.flagC).val) (fun v t =>
    .next ((t.rotFlags (rotOut op v s.flagC)).tick 16))

/-- RLCA (0x07, R187): Z = 0. -/
def execRlca (s : State) : Result :=
  rotA .rlc s

/-- RRCA (0x0F, R188): Z = 0. -/
def execRrca (s : State) : Result :=
  rotA .rrc s

/-- RLA (0x17, R189): Z = 0. -/
def execRla (s : State) : Result :=
  rotA .rl s

/-- RRA (0x1F, R190): Z = 0. -/
def execRra (s : State) : Result :=
  rotA .rr s

/-- RLC B (0xCB 0x00, R191). -/
def execRlcB (s : State) : Result := rotReg .rlc .b s

/-- RLC C (0xCB 0x01, R191). -/
def execRlcC (s : State) : Result := rotReg .rlc .c s

/-- RLC D (0xCB 0x02, R191). -/
def execRlcD (s : State) : Result := rotReg .rlc .d s

/-- RLC E (0xCB 0x03, R191). -/
def execRlcE (s : State) : Result := rotReg .rlc .e s

/-- RLC H (0xCB 0x04, R191). -/
def execRlcH (s : State) : Result := rotReg .rlc .h s

/-- RLC L (0xCB 0x05, R191). -/
def execRlcL (s : State) : Result := rotReg .rlc .l s

/-- RLC (HL) (0xCB 0x06, R192). -/
def execRlcAtHl (s : State) : Result := rotHl .rlc s

/-- RLC A (0xCB 0x07, R191). -/
def execRlcA (s : State) : Result := rotReg .rlc .a s

/-- RRC B (0xCB 0x08, R193). -/
def execRrcB (s : State) : Result := rotReg .rrc .b s

/-- RRC C (0xCB 0x09, R193). -/
def execRrcC (s : State) : Result := rotReg .rrc .c s

/-- RRC D (0xCB 0x0A, R193). -/
def execRrcD (s : State) : Result := rotReg .rrc .d s

/-- RRC E (0xCB 0x0B, R193). -/
def execRrcE (s : State) : Result := rotReg .rrc .e s

/-- RRC H (0xCB 0x0C, R193). -/
def execRrcH (s : State) : Result := rotReg .rrc .h s

/-- RRC L (0xCB 0x0D, R193). -/
def execRrcL (s : State) : Result := rotReg .rrc .l s

/-- RRC (HL) (0xCB 0x0E, R194). -/
def execRrcAtHl (s : State) : Result := rotHl .rrc s

/-- RRC A (0xCB 0x0F, R193). -/
def execRrcA (s : State) : Result := rotReg .rrc .a s

/-- RL B (0xCB 0x10, R195). -/
def execRlB (s : State) : Result := rotReg .rl .b s

/-- RL C (0xCB 0x11, R195). -/
def execRlC (s : State) : Result := rotReg .rl .c s

/-- RL D (0xCB 0x12, R195). -/
def execRlD (s : State) : Result := rotReg .rl .d s

/-- RL E (0xCB 0x13, R195). -/
def execRlE (s : State) : Result := rotReg .rl .e s

/-- RL H (0xCB 0x14, R195). -/
def execRlH (s : State) : Result := rotReg .rl .h s

/-- RL L (0xCB 0x15, R195). -/
def execRlL (s : State) : Result := rotReg .rl .l s

/-- RL (HL) (0xCB 0x16, R196). -/
def execRlAtHl (s : State) : Result := rotHl .rl s

/-- RL A (0xCB 0x17, R195). -/
def execRlA (s : State) : Result := rotReg .rl .a s

/-- RR B (0xCB 0x18, R197). -/
def execRrB (s : State) : Result := rotReg .rr .b s

/-- RR C (0xCB 0x19, R197). -/
def execRrC (s : State) : Result := rotReg .rr .c s

/-- RR D (0xCB 0x1A, R197). -/
def execRrD (s : State) : Result := rotReg .rr .d s

/-- RR E (0xCB 0x1B, R197). -/
def execRrE (s : State) : Result := rotReg .rr .e s

/-- RR H (0xCB 0x1C, R197). -/
def execRrH (s : State) : Result := rotReg .rr .h s

/-- RR L (0xCB 0x1D, R197). -/
def execRrL (s : State) : Result := rotReg .rr .l s

/-- RR (HL) (0xCB 0x1E, R198). -/
def execRrAtHl (s : State) : Result := rotHl .rr s

/-- RR A (0xCB 0x1F, R197). -/
def execRrA (s : State) : Result := rotReg .rr .a s

/-- SLA B (0xCB 0x20, R199). -/
def execSlaB (s : State) : Result := rotReg .sla .b s

/-- SLA C (0xCB 0x21, R199). -/
def execSlaC (s : State) : Result := rotReg .sla .c s

/-- SLA D (0xCB 0x22, R199). -/
def execSlaD (s : State) : Result := rotReg .sla .d s

/-- SLA E (0xCB 0x23, R199). -/
def execSlaE (s : State) : Result := rotReg .sla .e s

/-- SLA H (0xCB 0x24, R199). -/
def execSlaH (s : State) : Result := rotReg .sla .h s

/-- SLA L (0xCB 0x25, R199). -/
def execSlaL (s : State) : Result := rotReg .sla .l s

/-- SLA (HL) (0xCB 0x26, R200). -/
def execSlaAtHl (s : State) : Result := rotHl .sla s

/-- SLA A (0xCB 0x27, R199). -/
def execSlaA (s : State) : Result := rotReg .sla .a s

/-- SRA B (0xCB 0x28, R201). -/
def execSraB (s : State) : Result := rotReg .sra .b s

/-- SRA C (0xCB 0x29, R201). -/
def execSraC (s : State) : Result := rotReg .sra .c s

/-- SRA D (0xCB 0x2A, R201). -/
def execSraD (s : State) : Result := rotReg .sra .d s

/-- SRA E (0xCB 0x2B, R201). -/
def execSraE (s : State) : Result := rotReg .sra .e s

/-- SRA H (0xCB 0x2C, R201). -/
def execSraH (s : State) : Result := rotReg .sra .h s

/-- SRA L (0xCB 0x2D, R201). -/
def execSraL (s : State) : Result := rotReg .sra .l s

/-- SRA (HL) (0xCB 0x2E, R202). -/
def execSraAtHl (s : State) : Result := rotHl .sra s

/-- SRA A (0xCB 0x2F, R201). -/
def execSraA (s : State) : Result := rotReg .sra .a s

/-- SWAP B (0xCB 0x30, R203). -/
def execSwapB (s : State) : Result := rotReg .swap .b s

/-- SWAP C (0xCB 0x31, R203). -/
def execSwapC (s : State) : Result := rotReg .swap .c s

/-- SWAP D (0xCB 0x32, R203). -/
def execSwapD (s : State) : Result := rotReg .swap .d s

/-- SWAP E (0xCB 0x33, R203). -/
def execSwapE (s : State) : Result := rotReg .swap .e s

/-- SWAP H (0xCB 0x34, R203). -/
def execSwapH (s : State) : Result := rotReg .swap .h s

/-- SWAP L (0xCB 0x35, R203). -/
def execSwapL (s : State) : Result := rotReg .swap .l s

/-- SWAP (HL) (0xCB 0x36, R204). -/
def execSwapAtHl (s : State) : Result := rotHl .swap s

/-- SWAP A (0xCB 0x37, R203). -/
def execSwapA (s : State) : Result := rotReg .swap .a s

/-- SRL B (0xCB 0x38, R205). -/
def execSrlB (s : State) : Result := rotReg .srl .b s

/-- SRL C (0xCB 0x39, R205). -/
def execSrlC (s : State) : Result := rotReg .srl .c s

/-- SRL D (0xCB 0x3A, R205). -/
def execSrlD (s : State) : Result := rotReg .srl .d s

/-- SRL E (0xCB 0x3B, R205). -/
def execSrlE (s : State) : Result := rotReg .srl .e s

/-- SRL H (0xCB 0x3C, R205). -/
def execSrlH (s : State) : Result := rotReg .srl .h s

/-- SRL L (0xCB 0x3D, R205). -/
def execSrlL (s : State) : Result := rotReg .srl .l s

/-- SRL (HL) (0xCB 0x3E, R206). -/
def execSrlAtHl (s : State) : Result := rotHl .srl s

/-- SRL A (0xCB 0x3F, R205). -/
def execSrlA (s : State) : Result := rotReg .srl .a s

end Sys2Proof.Machine
end

