-- ==== Sys2Proof/Machine/Prefix.lean ====
section
/-! DEFINITION. The prefix row PREFIX CB (R116): the prefixed instruction its second byte selects. -/

namespace Sys2Proof.Machine

/-- The prefixed instruction of a form (R191 to R212). -/
def runCb (f : CbForm) (s : State) : Result :=
  match f with
  | .rotReg op r => rotReg op r s
  | .rotHl op => rotHl op s
  | .bitReg n r => bitReg n r s
  | .bitHl n => bitHl n s
  | .resReg n r => resReg n r s
  | .resHl n => resHl n s
  | .setReg n r => setReg n r s
  | .setHl n => setHl n s

/-- PREFIX CB (0xCB, R116): the row selected by byte 1. -/
def execPrefixCb (cbop : Byte) (s : State) : Result :=
  runCb (cbForm cbop) s

end Sys2Proof.Machine
end

