-- ==== Sys2Proof/Machine/System.lean ====
section
/-! DEFINITION. No-operation, halt, stop, interrupt enable and undefined opcodes (47_system.md, R224 to R229). -/

namespace Sys2Proof.Machine

/-- An undefined opcode: `MODE <- Locked`, cost 4 (R229, R235). The byte itself has no effect. -/
def lockUp (_opcode : Byte) (s : State) : Result := .next (State.tick 4 { s with mode := .locked })

/-- NOP (0x00, R224): nothing but the cost. -/
def execNop (s : State) : Result :=
  .next (s.tick 4)

/-- STOP (0x10, R226): the second byte is ignored. -/
def execStop (_n8 : Byte) (s : State) : Result :=
  .next (State.tick 4 { s with mode := .stopped })

/-- HALT (0x76, R225): F_HALT_BUG with IME = 0 and a request pending and enabled. -/
def execHalt (s : State) : Result :=
  if s.ime = false ∧ s.pend ≠ 0#8 then .fault .haltBug
  else .next (State.tick 4 { s with mode := .halted })

/-- UNDEFINED 0xD3 (0xD3, R229). -/
def execUndefD3 (s : State) : Result := lockUp 0xD3#8 s

/-- UNDEFINED 0xDB (0xDB, R229). -/
def execUndefDB (s : State) : Result := lockUp 0xDB#8 s

/-- UNDEFINED 0xDD (0xDD, R229). -/
def execUndefDD (s : State) : Result := lockUp 0xDD#8 s

/-- UNDEFINED 0xE3 (0xE3, R229). -/
def execUndefE3 (s : State) : Result := lockUp 0xE3#8 s

/-- UNDEFINED 0xE4 (0xE4, R229). -/
def execUndefE4 (s : State) : Result := lockUp 0xE4#8 s

/-- UNDEFINED 0xEB (0xEB, R229). -/
def execUndefEB (s : State) : Result := lockUp 0xEB#8 s

/-- UNDEFINED 0xEC (0xEC, R229). -/
def execUndefEC (s : State) : Result := lockUp 0xEC#8 s

/-- UNDEFINED 0xED (0xED, R229). -/
def execUndefED (s : State) : Result := lockUp 0xED#8 s

/-- DI (0xF3, R227): at once; cancels a pending EI. -/
def execDi (s : State) : Result :=
  .next (State.tick 4 { s with ime := false, imePending := false })

/-- UNDEFINED 0xF4 (0xF4, R229). -/
def execUndefF4 (s : State) : Result := lockUp 0xF4#8 s

/-- EI (0xFB, R228): IME follows at the end of the next executed instruction (R232). -/
def execEi (s : State) : Result :=
  .next (State.tick 4 { s with imePending := true })

/-- UNDEFINED 0xFC (0xFC, R229). -/
def execUndefFC (s : State) : Result := lockUp 0xFC#8 s

/-- UNDEFINED 0xFD (0xFD, R229). -/
def execUndefFD (s : State) : Result := lockUp 0xFD#8 s

end Sys2Proof.Machine
end

