-- ==== Sys2Proof/Machine/Engine.lean ====
section
/-! DEFINITION. The step engine (R230 to R236) over a meaning for the decoded instruction, which
Machine/Step.lean gives it; and placing an instruction where the next step fetches. -/

namespace Sys2Proof.Machine

/-! ## Fetch -/

/-- One byte of a fetch: a bus read, with the model fault of HuC1's infrared mode (R97, R100). -/
def fetchByte (s : State) (addr : Addr) : Except Fault Byte :=
  if s.irBlocked addr then .error .huc1Ir else .ok (s.busRead addr)

/-- The instruction at PC and its length: the first byte fixes how many bytes are read (R102, R119). -/
def fetch (s : State) : Except Fault (Instr × Nat) :=
  match fetchByte s s.pc with
  | .error f => .error f
  | .ok b0 =>
    if instrLength b0 = 1 then .ok (decodeParts b0 0#8 0#8, 1)
    else
      match fetchByte s (s.pc + 1#16) with
      | .error f => .error f
      | .ok b1 =>
        if instrLength b0 = 2 then .ok (decodeParts b0 b1 0#8, 2)
        else
          match fetchByte s (s.pc + 2#16) with
          | .error f => .error f
          | .ok b2 => .ok (decodeParts b0 b1 b2, 3)

/-! ## The step -/

/-- `PC <- PC_next` (R17, R18). -/
def State.advance (len : Nat) (s : State) : State := { s with pc := s.pc + BitVec.ofNat 16 len }

/-- The end-of-step enable: "if enable_now == 1 and IME_PENDING == 1" (R230, R232). -/
def State.enableAfter (enableNow : Bool) (s : State) : State :=
  if enableNow && s.imePending then { s with ime := true, imePending := false } else s

/-- The rest of a step after an instruction's outcome: the deferred enable (R232). -/
def afterInstr (enableNow : Bool) (r : Result) : Result :=
  match r with
  | .next t => .next (t.enableAfter enableNow)
  | .fault f => .fault f
  | .refused r => .refused r

/-- Fetch the instruction at PC, advance PC, and give it its meaning (R230). -/
def executeNext (run : Instr → State → Result) (s : State) : Result :=
  match fetch s with
  | .error f => .fault f
  | .ok (i, len) => afterInstr s.imePending (run i (s.advance len))

/-- A step in Running mode: a pending, enabled interrupt comes before the instruction (R230, R240). -/
def stepRunning (run : Instr → State → Result) (s : State) : Result :=
  if s.ime = true ∧ s.pend ≠ 0#8 then dispatch s else executeNext run s

/-- A step in Halted mode: the wake, without a dispatch, or idling; cost 4 (R230, R251). -/
def stepHalted (s : State) : State :=
  if s.pend ≠ 0#8 then State.tick 4 { s with mode := .running } else s.tick 4

/-- A step by run mode (R230). -/
def stepMode (run : Instr → State → Result) (s : State) : Result :=
  match s.mode with
  | .locked => .next (s.tick 4)
  | .stopped => .next (s.tick 4)
  | .halted => .next (stepHalted s)
  | .running => stepRunning run s

/-- "If the step raises ModelFault(name)" its one effect is `FAULT <- name` (R230, R236). -/
def markFault (s : State) (r : Result) : Result :=
  match r with
  | .fault f => .next { s with fault := some f }
  | .next t => .next t
  | .refused r => .refused r

/-- `Step()`, defined only when FAULT = none (R230): a marked state answers its fault (log 9). -/
def stepWith (run : Instr → State → Result) (s : State) : Result :=
  match s.fault with
  | some f => .fault f
  | none => markFault s (stepMode run s)

/-! ## Placing an instruction -/

/-- The header of an image of zeros. -/
def blankHeader : Header :=
  { typeByte := 0#8, romSizeCode := 0#8, ramSizeCode := 0#8, destinationCode := 0#8,
    headerChecksum := 0#8, globalChecksum0 := 0#8, globalChecksum1 := 0#8 }

/-- A Fixed cartridge whose 32 KiB image holds zeros, as `try_parse` builds it. -/
def blankCartridge : Cartridge :=
  { rom := { size := 0x8000, bytes := [] }, header := blankHeader
    features := { ram := false, battery := false, rtc := false, rumble := false }
    mbc := .fixed, cram := [] }

/-- Put a byte where the cartridge's window reads it: in the ROM image at the bank shown, or in CRAM
where RAM is shown. -/
def placeInCart (c : Cartridge) (addr : Addr) (v : Byte) : Cartridge :=
  if addr.toNat ≤ 0x7FFF then
    let bank := if addr.toNat ≤ 0x3FFF then c.mbc.lowBank else c.mbc.highBank
    let off := romOffset c.rom bank addr
    if off < c.rom.size then { c with rom := { c.rom with bytes := c.rom.bytes.writeZ off v } } else c
  else
    match c.cramOffset addr with
    | some off => { c with cram := c.cram.writeZ off (c.cramStored v) }
    | none => c

/-- Put a byte where the bus reads it at an address, loading a blank cartridge where the address
needs one and none is loaded (log 2, log 23). -/
def placeByte (addr : Addr) (v : Byte) (s : State) : State :=
  let s := if s.bootReads addr then { s with bootMapped := false } else s
  match backing addr with
  | .cart => { s with cart := some (placeInCart (s.cart.getD blankCartridge) addr v) }
  | .store key => { s with mem := s.mem.write key v }
  | .unusable => s
  | .ie => { s with ie := v }

/-- Put a list of bytes at an address and after it. -/
def placeBytes (addr : Addr) (bytes : List Byte) (s : State) : State :=
  match bytes with
  | [] => s
  | v :: rest => placeBytes (addr + 1#16) rest (placeByte addr v s)

/-- The state whose next step fetches and runs these bytes: placed at PC, Running, unmarked, and no
interrupt dispatched before them (log 23). -/
def readyToRun (bytes : List Byte) (s : State) : State :=
  let t := placeBytes s.pc bytes s
  { t with mode := .running, fault := none, ime := t.ime && t.pend == 0#8 }

end Sys2Proof.Machine
end

