-- ==== Sys2Proof/Machine/Step.lean ====
section
/-! DEFINITION. The step (R230), and the state whose next step runs a given table word. -/

namespace Sys2Proof.Machine

/-- `Step()`, "the only transition of the core" (R230); its cost is the growth of CYCLES. -/
def step (s : State) : Host.Outcome State Fault Refusal := stepWith exec s

/-- `s` with the instruction of a table word placed at PC, to be run by the next step. It stands for
the load of a cartridge that holds it (log 2). -/
def State.withFetchWord (s : State) (nbits w : Nat) : State := readyToRun (tableBytes nbits w) s

end Sys2Proof.Machine
end

