-- ==== Sys2Proof/Machine/HostOps.lean ====
section
/-! DEFINITION. The host's operations (R252) and the host's actions between steps (R253), `emulate`
(R246), reset (R255) and runs of steps and host actions (R254). -/

namespace Sys2Proof.Machine

/-! ## Cartridge -/

/-- `load_cartridge` of a ROM image: "CPU registers, memory and MODE are not changed" (R252). -/
def loadImage (init : CartInit) (rom : RomImage) (s : State) : Except ParsingError State :=
  match tryParse init rom with
  | .ok c => .ok { s with cart := some c }
  | .error e => .error e

/-- `load_cartridge` of image bytes (R252). -/
def loadCartridge (init : CartInit) (bytes : List Byte) (s : State) : Except ParsingError State :=
  loadImage init (RomImage.ofBytes bytes) s

/-- `unload_cartridge` (R252). -/
def unloadCartridge (s : State) : State := { s with cart := none }

/-! ## Reset -/

/-- `P_INIT_MEM` and `P_IO_RESET` (R9): byte images of VRAM, WRAM, OAM, IO and HRAM, and what belongs
to the cartridge. A byte past the end of an image is unlisted (log 3, log 4). -/
structure InitMem where
  vram : List Byte
  wram : List Byte
  oam : List Byte
  io : List Byte
  hram : List Byte
  cart : CartInit
  deriving DecidableEq, Repr

/-- No image given. -/
def InitMem.none : InitMem :=
  { vram := [], wram := [], oam := [], io := [], hram := [], cart := CartInit.none }

/-- The bus storage that holds the images (R34, R48). -/
def initMemory (init : InitMem) : Memory :=
  let put (m : Memory) (base size : Nat) (bytes : List Byte) : Memory :=
    writeBytes Memory.unlisted m base (bytes.take size)
  let m := put [] 0x8000 0x2000 init.vram
  let m := put m 0xC000 0x2000 init.wram
  let m := put m 0xFE00 0xA0 init.oam
  let m := put m 0xFF00 0x80 init.io
  put m 0xFF80 0x7F init.hram

/-- The registers after a reset with a boot ROM: "all registers start at zero and PC=0x0000" (R46). -/
def State.withBootRegs (s : State) : State :=
  { s with a := 0#8, f := 0#8, b := 0#8, c := 0#8, d := 0#8, e := 0#8, h := 0#8, l := 0#8,
           sp := 0#16, pc := 0#16 }

/-- `reset` (R255): the registers of R45, or of R46 with a boot ROM; the control state of R47; the bus
storage of R48; "a loaded cartridge stays loaded, and its MBC state returns to" R49. FAULT too is
none after it (log 26). -/
def hostReset (boot : Bool) (init : InitMem) (s : State) : State :=
  let core := if boot then State.reset.withBootRegs else State.reset
  { core with
    bootMapped := boot
    mem := initMemory init
    cart := s.cart.map (cartReset init.cart) }

/-! ## Inspection (R250, R252) -/

/-- The "read-only register snapshot" (R250, R252). -/
structure Snapshot where
  a : Byte
  f : Byte
  b : Byte
  c : Byte
  d : Byte
  e : Byte
  h : Byte
  l : Byte
  sp : Addr
  pc : Addr
  ime : Bool
  imePending : Bool
  mode : RunMode
  fault : Option Fault
  cycles : Nat
  deriving DecidableEq, Repr

/-- `snapshot` (R252). -/
def snapshot (s : State) : Snapshot :=
  { a := s.a, f := s.f, b := s.b, c := s.c, d := s.d, e := s.e, h := s.h, l := s.l, sp := s.sp,
    pc := s.pc, ime := s.ime, imePending := s.imePending, mode := s.mode, fault := s.fault,
    cycles := s.cycles }

/-- `bus_read` (R64, R252): the bus read, which changes nothing; the model fault in the infrared
window (log 17). -/
def hostBusRead (s : State) (addr : Addr) : Except Fault Byte := fetchByte s addr

/-- `pc` (R252). -/
def hostPc (s : State) : Addr := s.pc

/-! ## Actions (R253) -/

/-- `write_io(a, v)`: an I/O byte, not 0xFF50; none where the host may not (R253, log 16). -/
def hostWriteIo (addr : Addr) (v : Byte) (s : State) : Option State :=
  if 0xFF00 ≤ addr.toNat ∧ addr.toNat ≤ 0xFF7F ∧ addr ≠ 0xFF50#16 then
    some { s with mem := s.mem.write addr.toNat v }
  else none

/-- `write_video(a, v)`: a VRAM or OAM byte; none elsewhere (R253, log 16). -/
def hostWriteVideo (addr : Addr) (v : Byte) (s : State) : Option State :=
  if (0x8000 ≤ addr.toNat ∧ addr.toNat ≤ 0x9FFF) ∨ (0xFE00 ≤ addr.toNat ∧ addr.toNat ≤ 0xFE9F) then
    some { s with mem := s.mem.write addr.toNat v }
  else none

/-- `wake_stop`: "only when MODE = Stopped: MODE <- Running" (R253). -/
def hostWakeStop (s : State) : State :=
  match s.mode with
  | .stopped => { s with mode := .running }
  | _ => s

/-- `rtc_tick` (R90, R253). -/
def hostRtcTick (s : State) : State := { s with cart := s.cart.map cartRtcTick }

/-- What the host may do to the core between steps (R252, R253), the inspections apart. -/
inductive HostAction where
  | writeIo (addr : Addr) (v : Byte)
  | writeVideo (addr : Addr) (v : Byte)
  | wakeStop
  | rtcTick
  | loadCartridge (init : CartInit) (bytes : List Byte)
  | unloadCartridge
  | reset (boot : Bool) (init : InitMem)
  deriving DecidableEq, Repr

/-- The effect of a host action; none where the host may not do it. A load that is an error changes
nothing (R252). -/
def HostAction.apply (act : HostAction) (s : State) : Option State :=
  match act with
  | .writeIo addr v => hostWriteIo addr v s
  | .writeVideo addr v => hostWriteVideo addr v s
  | .wakeStop => some (hostWakeStop s)
  | .rtcTick => some (hostRtcTick s)
  | .loadCartridge init bytes =>
    match Sys2Proof.Machine.loadCartridge init bytes s with
    | .ok t => some t
    | .error _ => some s
  | .unloadCartridge => some (Sys2Proof.Machine.unloadCartridge s)
  | .reset boot init => some (hostReset boot init s)

/-! ## emulate (R246) -/

/-- The cost `Step()` returns: the growth of CYCLES (R230). -/
def costOf (before after : State) : Int := (after.cycles : Int) - (before.cycles : Int)

/-- The loop of `emulate`, with at most `fuel` steps. -/
def emulateLoop (fuel : Nat) (remaining : Int) (s : State) : Int × State :=
  match fuel with
  | 0 => (remaining, s)
  | fuel + 1 =>
    if 0 < remaining ∧ s.fault = none then
      match step s with
      | .next t => emulateLoop fuel (remaining - costOf s t) t
      | .fault _ => (remaining, s)
      | .refused _ => (remaining, s)
    else (remaining, s)

/-- `emulate(budget)`: the remaining budget and the state (R246). A step without a model fault costs
at least 4, so `budget` steps use the budget up. -/
def emulate (budget : Int) (s : State) : Int × State := emulateLoop budget.toNat budget s

/-! ## Runs (R254) -/

/-- One event of a run: a step, or a host action between steps. -/
inductive Event where
  | step
  | host (act : HostAction)
  deriving DecidableEq, Repr

/-- The state after an event, where there is one. -/
def Event.apply (e : Event) (s : State) : Option State :=
  match e with
  | .step =>
    match Sys2Proof.Machine.step s with
    | .next t => some t
    | .fault _ => none
    | .refused _ => none
  | .host act => act.apply s

/-- The state after a list of events, where every one has a state. -/
def runEvents (events : List Event) (s : State) : Option State :=
  match events with
  | [] => some s
  | e :: rest => (e.apply s).bind (runEvents rest)

end Sys2Proof.Machine
end

