-- ==== Sys2Proof/Safety.lean ====
section
/-! DEFINITION. What claims are stated with: the invariant of the state, the end of a run and a refuted
run (R254), and what each form of instruction writes, reads and stores to (R25, and the rules R124 to
R229). -/

namespace Sys2Proof.Machine

/-! ## The invariant -/

/-- Every key of the list is below `bound`. -/
def keysBelow (bound : Nat) (cells : Cells) : Bool := cells.all (fun cell => decide (cell.1 < bound))

/-- Every key of the list is a byte of the bus storage (R34). -/
def keysStored (m : Memory) : Bool := m.all (fun cell => Memory.isKey cell.1)

/-- "F's low nibble is always zero" (R27). -/
def State.flagsWf (s : State) : Bool := s.f &&& 0x0F#8 == 0#8

/-- The bank registers that never hold 0 (R78, R80, R83, R86). -/
def mbcWf (m : Mbc) : Bool :=
  match m with
  | .mbc1 r => r.bank1 != 0#5
  | .mbc2 r => r.romb != 0#4
  | .mbc3 r => r.romb != 0#7
  | _ => true

/-- The cells of MBC2's RAM are four bits (R85). -/
def cellsNibbles (c : Cartridge) : Bool :=
  match c.mbc with
  | .mbc2 _ => c.cram.all (fun cell => cell.2 &&& 0xF0#8 == 0#8)
  | _ => true

/-- A cartridge is one `try_parse` can give, as its controller has left it (R36, R70 to R74): its
header is the image's, its controller and features are its type byte's, its RAM lies within
CRAM_SIZE. -/
def cartWf (c : Cartridge) : Bool :=
  decide (0x150 ≤ c.rom.size) && c.rom.bytes.wfZ && keysBelow c.rom.size c.rom.bytes
    && decide (c.header = readHeader c.rom)
    && decide (cartType c.header.typeByte = some (c.mbc.kind, c.features))
    && c.cram.wfZ && keysBelow c.cramSize c.cram && mbcWf c.mbc && cellsNibbles c

/-- The invariant of the machine: F's low nibble is zero, the bus storage is canonical and lists only
bytes that exist, and a loaded cartridge is well formed. -/
def State.wf (s : State) : Bool :=
  s.flagsWf && s.mem.wf && keysStored s.mem && s.cart.all cartWf

/-! ## The end of a run (R254) -/

/-- A run that reached a model fault "has not ended; it is refuted". -/
def State.refuted (s : State) : Bool := s.fault != none

/-- The run has ended at this step boundary: (a) Locked, (b) Stopped and the host makes no further
`wake_stop`, (c) Halted with no source enabled, (d) the host stops stepping. -/
def runEnded (hostWakes hostSteps : Bool) (s : State) : Bool :=
  !s.refuted
    && (s.mode == .locked || (s.mode == .stopped && !hostWakes)
      || (s.mode == .halted && s.ie &&& 0x1F#8 == 0#8) || !hostSteps)

/-! ## What a store reaches -/

/-- The CRAM cell the window 0xA000-0xBFFF shows at an address, where it shows one. -/
def State.cramCell (s : State) (addr : Addr) : Option Nat := s.cart.bind (fun cart => cart.cramOffset addr)

/-- A store at `a` may change what a read of `b` gives: a controller write may change every byte the
cartridge shows; a store into the cartridge RAM window changes the windows of the cell it stores to; any
other store changes the addresses of the one byte it stores to (WRAM and its echo, R59), and one to
0xFF50 may unmap the boot ROM (R63). -/
def State.storeReaches (s : State) (a b : Addr) : Bool :=
  match backing a with
  | .cart =>
    if a.toNat ≤ 0x7FFF then backing b == .cart
    else decide (0xA000 ≤ b.toNat ∧ b.toNat ≤ 0xBFFF) && (s.cramCell a).isSome && s.cramCell a == s.cramCell b
  | .store key => backing b == .store key || (a == 0xFF50#16 && decide (b.toNat ≤ 0x00FF))
  | .unusable => false
  | .ie => b == 0xFFFF#16

end Sys2Proof.Machine

namespace Sys2Proof

open Sys2Proof.Machine

/-! ## What a form writes and reads -/

/-- The 8-bit registers of a pair; SP has none. -/
def Pair.halves (p : Pair) : List Reg8 :=
  match p with
  | .bc => [.b, .c]
  | .de => [.d, .e]
  | .hl => [.h, .l]
  | .sp => []

/-- The 8-bit registers of a stack pair, F apart. -/
def StackPair.halves (q : StackPair) : List Reg8 :=
  match q with
  | .bc => [.b, .c]
  | .de => [.d, .e]
  | .hl => [.h, .l]
  | .af => [.a]

/-- Which of the four flags an instruction writes. -/
structure FlagSet where
  z : Bool
  n : Bool
  h : Bool
  c : Bool
  deriving DecidableEq, Repr

/-- No flag. -/
def noFlags : FlagSet := { z := false, n := false, h := false, c := false }

/-- Z, N, H and C. -/
def allFlags : FlagSet := { z := true, n := true, h := true, c := true }

/-- Z, N and H; C is kept. -/
def flagsButC : FlagSet := { z := true, n := true, h := true, c := false }

/-- N, H and C; Z is kept. -/
def flagsButZ : FlagSet := { z := false, n := true, h := true, c := true }

/-- Z, H and C; N is kept. -/
def flagsButN : FlagSet := { z := true, n := false, h := true, c := true }

/-- N and H; Z and C are kept. -/
def flagsNH : FlagSet := { z := false, n := true, h := true, c := false }

/-- What a form writes of the registers: 8-bit registers, F apart; SP; the flags; and PC beyond PC_next. -/
structure Footprint where
  regs : List Reg8
  sp : Bool
  flags : FlagSet
  pc : Bool
  deriving DecidableEq, Repr

/-- 8-bit registers and flags, and nothing else. -/
def Footprint.of (regs : List Reg8) (flags : FlagSet) : Footprint :=
  { regs := regs, sp := false, flags := flags, pc := false }

/-- 8-bit registers, flags and SP. -/
def Footprint.withSp (regs : List Reg8) (flags : FlagSet) : Footprint :=
  { regs := regs, sp := true, flags := flags, pc := false }

/-- A control transfer, with SP or without (R213 to R223). -/
def Footprint.transfer (sp : Bool) : Footprint := { regs := [], sp := sp, flags := noFlags, pc := true }

/-- The destination of a pair. -/
def Footprint.ofPair (p : Pair) (flags : FlagSet) : Footprint :=
  { regs := Pair.halves p, sp := p == .sp, flags := flags, pc := false }

/-- The destination of an accumulator operation: A, but for CP (R172). -/
def AluOp.destination (op : AluOp) : List Reg8 := if op = .cp then [] else [.a]

/-- What a prefixed form writes (R191 to R212). -/
def CbForm.footprint (f : CbForm) : Footprint :=
  match f with
  | .rotReg _ r => .of [r] allFlags
  | .rotHl _ => .of [] allFlags
  | .bitReg _ _ | .bitHl _ => .of [] flagsButC
  | .resReg _ r | .setReg _ r => .of [r] noFlags
  | .resHl _ | .setHl _ => .of [] noFlags

/-- What a form writes of the registers: the destinations (R25), SP (R22) and the "Flags" line of its
rule. A conditional form writes only where its condition holds. -/
def Form.footprint (f : Form) : Footprint :=
  match f with
  | .ldRegReg dst _ | .ldRegImm dst _ | .ldRegHl dst => .of [dst] noFlags
  | .ldHlReg _ | .ldHlImm _ | .ldBcA | .ldDeA | .ldAbsA _ | .ldHighA _ | .ldHighCA | .ldAbsSp _ => .of [] noFlags
  | .ldABc | .ldADe | .ldAAbs _ | .ldAHigh _ | .ldAHighC => .of [.a] noFlags
  | .ldHlIncA | .ldHlDecA => .of [.h, .l] noFlags
  | .ldAHlInc | .ldAHlDec => .of [.a, .h, .l] noFlags
  | .ldPairImm p _ | .incPair p | .decPair p => .ofPair p noFlags
  | .ldSpHl => .withSp [] noFlags
  | .ldHlSpOff _ => .of [.h, .l] allFlags
  | .push _ => .withSp [] noFlags
  | .pop q => .withSp (StackPair.halves q) (if q = .af then allFlags else noFlags)
  | .aluReg op _ | .aluHl op | .aluImm op _ => .of op.destination allFlags
  | .incReg r | .decReg r => .of [r] flagsButC
  | .incAtHl | .decAtHl => .of [] flagsButC
  | .daa => .of [.a] flagsButN
  | .cpl => .of [.a] flagsNH
  | .scf | .ccf => .of [] flagsButZ
  | .addHl _ => .of [.h, .l] flagsButZ
  | .addSp _ => .withSp [] allFlags
  | .rlca | .rrca | .rla | .rra => .of [.a] allFlags
  | .cb f => f.footprint
  | .jp _ | .jpCond _ _ | .jpHl | .jr _ | .jrCond _ _ => .transfer false
  | .call _ | .callCond _ _ | .rst _ | .ret | .retCond _ | .reti => .transfer true
  | .nop | .halt | .stop _ | .di | .ei | .undefined _ => .of [] noFlags

/-- The addresses a prefixed form reads. -/
def CbForm.loadsFrom (f : CbForm) (s : State) : List Addr :=
  match f with
  | .rotHl _ | .bitHl _ | .resHl _ | .setHl _ => [s.hl]
  | .rotReg _ _ | .bitReg _ _ | .resReg _ _ | .setReg _ _ => []

/-- The addresses a prefixed form stores to. -/
def CbForm.storesTo (f : CbForm) (s : State) : List Addr :=
  match f with
  | .rotHl _ | .resHl _ | .setHl _ => [s.hl]
  | .bitHl _ | .rotReg _ _ | .bitReg _ _ | .resReg _ _ | .setReg _ _ => []

/-- The addresses a form reads, in order, the fetch apart. -/
def Form.loadsFrom (f : Form) (s : State) : List Addr :=
  match f with
  | .ldRegHl _ | .ldAHlInc | .ldAHlDec | .aluHl _ | .incAtHl | .decAtHl => [s.hl]
  | .cb f => f.loadsFrom s
  | .ldABc => [s.bc]
  | .ldADe => [s.de]
  | .ldAAbs n => [n]
  | .ldAHigh n => [highPage n]
  | .ldAHighC => [highPage s.c]
  | .pop _ | .ret | .reti => [s.sp, s.sp + 1#16]
  | .retCond cc => if s.cond cc then [s.sp, s.sp + 1#16] else []
  | .ldRegReg _ _ | .ldRegImm _ _ | .ldHlReg _ | .ldHlImm _ | .ldBcA | .ldDeA | .ldHlIncA | .ldHlDecA => []
  | .ldAbsA _ | .ldHighA _ | .ldHighCA | .ldPairImm _ _ | .ldAbsSp _ | .ldSpHl | .ldHlSpOff _ | .push _ => []
  | .aluReg _ _ | .aluImm _ _ | .incReg _ | .decReg _ | .daa | .cpl | .scf | .ccf | .addHl _ => []
  | .incPair _ | .decPair _ | .addSp _ | .rlca | .rrca | .rla | .rra => []
  | .jp _ | .jpCond _ _ | .jpHl | .jr _ | .jrCond _ _ | .call _ | .callCond _ _ | .rst _ => []
  | .nop | .halt | .stop _ | .di | .ei | .undefined _ => []

/-- The addresses a form stores a byte to, in order; a push stores the high byte first (R143). -/
def Form.storesTo (f : Form) (s : State) : List Addr :=
  match f with
  | .ldHlReg _ | .ldHlImm _ | .ldHlIncA | .ldHlDecA | .incAtHl | .decAtHl => [s.hl]
  | .cb f => f.storesTo s
  | .ldBcA => [s.bc]
  | .ldDeA => [s.de]
  | .ldAbsA n => [n]
  | .ldHighA n => [highPage n]
  | .ldHighCA => [highPage s.c]
  | .ldAbsSp n => [n, n + 1#16]
  | .push _ | .call _ | .rst _ => [s.sp - 1#16, s.sp - 2#16]
  | .callCond cc _ => if s.cond cc then [s.sp - 1#16, s.sp - 2#16] else []
  | .ldRegReg _ _ | .ldRegImm _ _ | .ldRegHl _ | .ldABc | .ldADe | .ldAHlInc | .ldAHlDec | .ldAAbs _ => []
  | .ldAHigh _ | .ldAHighC | .ldPairImm _ _ | .ldSpHl | .ldHlSpOff _ | .pop _ => []
  | .aluReg _ _ | .aluHl _ | .aluImm _ _ | .incReg _ | .decReg _ | .daa | .cpl | .scf | .ccf | .addHl _ => []
  | .incPair _ | .decPair _ | .addSp _ | .rlca | .rrca | .rla | .rra => []
  | .jp _ | .jpCond _ _ | .jpHl | .jr _ | .jrCond _ _ | .ret | .retCond _ | .reti => []
  | .nop | .halt | .stop _ | .di | .ei | .undefined _ => []

/-- Every address a form accesses but the fetch. -/
def Form.accesses (f : Form) (s : State) : List Addr := f.loadsFrom s ++ f.storesTo s

end Sys2Proof
end

