-- ==== Sys2Proof/Certificates/Slice0/Obligations.lean ====
section
/-! DEFINITION. The statements for the provers. In a statement about `exec` the state is one in which the
instruction has been fetched, so its PC is PC_next (R17, R18); `step` is what fetches
(`Obligations.StepRunsDecoded`). A statement for an instruction is made by its form, which gathers the
constructors of `Instr` that one rule of the spec covers; a prefixed form is also that of PREFIX CB with
that byte 1. -/

namespace Sys2Proof.Claims

open Sys2Proof.Machine

/-- The state after `Push(w)` (R143): SP down by 2, the high byte stored first. -/
def pushed (w : Addr) (s : State) : State :=
  let down : State := { s with sp := s.sp - 2#16 }
  (down.busWrite (s.sp - 1#16) (highByte w)).busWrite (s.sp - 2#16) (lowByte w)

/-- The word `Pop()` reads (R144). -/
def popped (s : State) : Addr := pack (s.busRead s.sp) (s.busRead (s.sp + 1#16))

/-- The three bytes at PC. -/
def bytesAtPc (s : State) : List Byte := [s.busRead s.pc, s.busRead (s.pc + 1#16), s.busRead (s.pc + 2#16)]

/-- The stack slots a push stores to are no infrared window (R97). -/
def pushFree (s : State) : Prop := s.irBlocked (s.sp - 1#16) = false ∧ s.irBlocked (s.sp - 2#16) = false

/-- The stack slots a pop reads are no infrared window (R97). -/
def popFree (s : State) : Prop := s.irBlocked s.sp = false ∧ s.irBlocked (s.sp + 1#16) = false

/-- A step from this state fetches and runs the instruction at PC (R230). -/
def runsInstr (s : State) : Prop :=
  s.fault = none ∧ s.mode = .running ∧ (s.ime = false ∨ s.pend = 0#8)

/-- The result of ADD (`c = 0`) or ADC (`c` the carry) and its cost (R151, R154). -/
def added (s : State) (v : Byte) (c cost : Nat) : State :=
  let t := s.a.toNat + v.toNat + c
  { s with
    a := BitVec.ofNat 8 t
    f := packFlags (t % 256 = 0) false (15 < s.a.toNat % 16 + v.toNat % 16 + c) (255 < t)
    cycles := s.cycles + cost }

/-- F after SUB, CP (`c = 0`) or SBC (`c` the carry) (R157, R160, R172). -/
def subFlags (a v : Byte) (c : Nat) : Byte :=
  packFlags (((a.toNat : Int) - v.toNat - c) % 256 = 0) true (a.toNat % 16 < v.toNat % 16 + c) (a.toNat < v.toNat + c)

/-- The result of SUB or SBC and its cost (R157, R160). -/
def subtracted (s : State) (v : Byte) (c cost : Nat) : State :=
  { s with
    a := BitVec.ofInt 8 ((s.a.toNat : Int) - v.toNat - c)
    f := subFlags s.a v c
    cycles := s.cycles + cost }

/-- The result of CP and its cost (R172): A is not written. -/
def compared (s : State) (v : Byte) (cost : Nat) : State :=
  { s with f := subFlags s.a v 0, cycles := s.cycles + cost }

/-- The result of AND, XOR or OR and its cost: H as the rule says (R163, R166, R169). -/
def logical (s : State) (w : Byte) (h : Bool) (cost : Nat) : State :=
  { s with a := w, f := packFlags (w = 0#8) false h false, cycles := s.cycles + cost }

/-- The byte a rotate or shift gives, in whole numbers; `c` is the carry before (R191 to R206). -/
def shifted (op : RotOp) (v c : Nat) : Nat :=
  match op with
  | .rlc => (2 * v + v / 128) % 256
  | .rrc => v / 2 + 128 * (v % 2)
  | .rl => (2 * v + c) % 256
  | .rr => v / 2 + 128 * c
  | .sla => 2 * v % 256
  | .sra => v / 2 + v / 128 * 128
  | .swap => v % 16 * 16 + v / 16
  | .srl => v / 2

/-- The carry a rotate or shift leaves (R191 to R206). -/
def shiftedCarry (op : RotOp) (v : Nat) : Bool :=
  match op with
  | .rlc | .rl | .sla => 128 ≤ v
  | .rrc | .rr | .sra | .srl => v % 2 = 1
  | .swap => false

/-- The byte and F a prefixed rotate or shift leaves. -/
def shiftedByte (op : RotOp) (v : Byte) (c : Bool) : Byte := BitVec.ofNat 8 (shifted op v.toNat (carryNat c))

/-- F after a prefixed rotate or shift: Z of the result (R191 to R206). -/
def shiftedFlags (op : RotOp) (v : Byte) (c : Bool) : Byte :=
  packFlags (shifted op v.toNat (carryNat c) = 0) false false (shiftedCarry op v.toNat)

/-- F after BIT: Z the complement of the bit, C kept (R207). -/
def testedFlags (n : Fin 8) (v : Byte) (s : State) : Byte :=
  packFlags (v.toNat / 2 ^ n.val % 2 = 0) false true s.flagC

/-- The adjustment DAA makes, 0x60 and 0x06 by the tests of R179. -/
def daaAdjust (s : State) : Nat :=
  if s.flagN then (if s.flagC then 0x60 else 0) + (if s.flagH then 0x06 else 0)
  else (if s.flagC ∨ 0x99 < s.a.toNat then 0x60 else 0) + (if s.flagH ∨ 0x09 < s.a.toNat % 16 then 0x06 else 0)

/-- A after DAA (R179). -/
def daaResult (s : State) : Byte :=
  if s.flagN then BitVec.ofInt 8 ((s.a.toNat : Int) - daaAdjust s) else BitVec.ofNat 8 (s.a.toNat + daaAdjust s)

/-- C after DAA: set where the addition branch adds 0x60, else kept (R179). -/
def daaCarry (s : State) : Bool := s.flagC || (!s.flagN && decide (0x99 < s.a.toNat))

/-- A row of the table of R72: the type byte, its controller, and its RAM, battery, RTC and rumble. -/
def typeRow (t : Byte) (kind : ControllerKind) (ram battery rtc rumble : Bool) : Byte × ControllerKind × Features :=
  (t, kind, { ram := ram, battery := battery, rtc := rtc, rumble := rumble })

/-- The type bytes of R72 with their controllers and features. -/
def typeTable : List (Byte × ControllerKind × Features) :=
  [typeRow 0x00#8 .fixed false false false false,
   typeRow 0x01#8 .mbc1 false false false false,
   typeRow 0x02#8 .mbc1 true false false false,
   typeRow 0x03#8 .mbc1 true true false false,
   typeRow 0x05#8 .mbc2 true false false false,
   typeRow 0x06#8 .mbc2 true true false false,
   typeRow 0x0F#8 .mbc3 false true true false,
   typeRow 0x10#8 .mbc3 true true true false,
   typeRow 0x11#8 .mbc3 false false false false]
  ++ [typeRow 0x12#8 .mbc3 true false false false,
   typeRow 0x13#8 .mbc3 true true false false,
   typeRow 0x19#8 .mbc5 false false false false,
   typeRow 0x1A#8 .mbc5 true false false false,
   typeRow 0x1B#8 .mbc5 true true false false,
   typeRow 0x1C#8 .mbc5 false false false true,
   typeRow 0x1D#8 .mbc5 true false false true,
   typeRow 0x1E#8 .mbc5 true true false true,
   typeRow 0xFF#8 .huc1 true true false false]

/-- The CRAM offset `RamOff(bank, a)` with the size of R74 (R76). -/
def cellAt (c : Cartridge) (bank : Nat) (a : Addr) : Nat := (bank * 0x2000 + (a.toNat - 0xA000)) % c.cramSize

/-- What a read of a CRAM window gives when `shown` says that the bank shows RAM (R82, R93, R96). -/
def ramByte (c : Cartridge) (shown : Prop) [Decidable shown] (bank : Nat) (a : Addr) : Byte :=
  if shown ∧ 0 < c.cramSize then c.cram.readZ (cellAt c bank a) else Config.openBus

/-- What a write of a CRAM window leaves when `shown` says that the bank shows RAM (R82, R93, R96). -/
def ramWritten (c : Cartridge) (shown : Prop) [Decidable shown] (bank : Nat) (a : Addr) (v : Byte) : Cartridge :=
  if shown ∧ 0 < c.cramSize then { c with cram := c.cram.writeZ (cellAt c bank a) v } else c

/-- A byte as CRAM holds it: MBC2's cells are four bits (R85). -/
def cramCellOf (m : Mbc) (v : Byte) : Byte :=
  match m with
  | .mbc2 _ => v &&& 0x0F#8
  | _ => v

/-- The byte of the images handed over that belongs at a bus address, where there is one (R34, R48). -/
def imageByte (init : InitMem) (key : Nat) : Option Byte :=
  if 0x8000 ≤ key ∧ key ≤ 0x9FFF then init.vram[key - 0x8000]?
  else if 0xC000 ≤ key ∧ key ≤ 0xDFFF then init.wram[key - 0xC000]?
  else if 0xFE00 ≤ key ∧ key ≤ 0xFE9F then init.oam[key - 0xFE00]?
  else if 0xFF00 ≤ key ∧ key ≤ 0xFF7F then init.io[key - 0xFF00]?
  else if 0xFF80 ≤ key ∧ key ≤ 0xFFFE then init.hram[key - 0xFF80]?
  else none

/-- The address is in the cartridge RAM window 0xA000-0xBFFF. -/
def inRamWindow (a : Addr) : Prop := 0xA000 ≤ a.toNat ∧ a.toNat ≤ 0xBFFF

/-- The address names a byte of storage the bus both reads and writes, and not IE: VRAM, WRAM or its echo,
OAM, an I/O byte or HRAM (R56). -/
def isRam (a : Addr) : Prop :=
  (0x8000 ≤ a.toNat ∧ a.toNat ≤ 0x9FFF) ∨ (0xC000 ≤ a.toNat ∧ a.toNat ≤ 0xFE9F) ∨ (0xFF00 ≤ a.toNat ∧ a.toNat ≤ 0xFFFE)

/-- One second of a running clock, carries included (R90). -/
def nextSecond (t : RtcSet) : RtcSet :=
  let s := (t.seconds.toNat + 1) % 64
  let m := if s = 60 then (t.minutes.toNat + 1) % 64 else t.minutes.toNat
  let h := if s = 60 ∧ m = 60 then (t.hours.toNat + 1) % 32 else t.hours.toNat
  let day := t.dayLow.toNat + 256 * carryNat t.dayHigh
  let day := if s = 60 ∧ m = 60 ∧ h = 24 then day + 1 else day
  { t with
    seconds := BitVec.ofNat 6 (if s = 60 then 0 else s)
    minutes := BitVec.ofNat 6 (if s = 60 ∧ m = 60 then 0 else m)
    hours := BitVec.ofNat 5 (if s = 60 ∧ m = 60 ∧ h = 24 then 0 else h)
    dayLow := BitVec.ofNat 8 (day % 256)
    dayHigh := day / 256 % 2 = 1
    dayCarry := t.dayCarry || day == 512 }

/-- A host action that is no reset. -/
def isReset (e : Event) : Bool :=
  match e with
  | .host (.reset _ _) => true
  | _ => false

/-- The fields of a cartridge that nothing a step does changes (R36, R55). -/
def cartIdentity (s : State) : Option (RomImage × Header × Features × ControllerKind) :=
  s.cart.map (fun c => (c.rom, c.header, c.features, c.mbc.kind))

end Sys2Proof.Claims

open Sys2Proof Sys2Proof.Machine Sys2Proof.Claims

/-! ## Registers and flags -/

/-- R13: pack and split. R20: a pair is a view, its first-named register the high byte, and a write of it
writes both halves, F under its mask. R21: a pair reads back as written, but for the low nibble of F, and
leaves the other pairs alone. -/
def Obligations.PairsAreViews : Prop :=
  (∀ lo hi : Byte, pack lo hi = lo.setWidth 16 ||| (hi.setWidth 16 <<< 8))
  ∧ (∀ w : Addr, (lowByte w).toNat = w.toNat % 256 ∧ (highByte w).toNat = w.toNat / 256
      ∧ pack (lowByte w) (highByte w) = w)
  ∧ (∀ s : State, s.bc = pack s.c s.b ∧ s.de = pack s.e s.d ∧ s.hl = pack s.l s.h ∧ s.af = pack s.f s.a)
  ∧ (∀ (s : State) (w : Addr),
      s.setBc w = { s with c := lowByte w, b := highByte w }
      ∧ s.setDe w = { s with e := lowByte w, d := highByte w }
      ∧ s.setHl w = { s with l := lowByte w, h := highByte w }
      ∧ s.setAf w = { s with f := lowByte w &&& 0xF0#8, a := highByte w })
  ∧ (∀ (s : State) (q q' : StackPair) (w : Addr),
      (s.setStackPair q w).stackPair q = (if q = .af then w &&& 0xFFF0#16 else w)
      ∧ (q' ≠ q → (s.setStackPair q w).stackPair q' = s.stackPair q'))

/-- R26: the places of the flags. R27: a write of F stores the value under 0xF0, and a write by flag name
leaves the low nibble zero. R28: writing one flag of an F whose low nibble is zero changes its bit alone. -/
def Obligations.FlagsInF : Prop :=
  (∀ s : State, s.flagZ = s.f.getLsbD 7 ∧ s.flagN = s.f.getLsbD 6 ∧ s.flagH = s.f.getLsbD 5 ∧ s.flagC = s.f.getLsbD 4)
  ∧ (∀ (s : State) (v : Byte), s.setF v = { s with f := v &&& 0xF0#8 })
  ∧ (∀ (s : State) (z n h c : Bool),
      s.writeFlags z n h c = { s with f := packFlags z n h c }
      ∧ (packFlags z n h c).toNat = 128 * carryNat z + 64 * carryNat n + 32 * carryNat h + 16 * carryNat c)
  ∧ (∀ (s : State) (x : Bool), s.f &&& 0x0F#8 = 0#8 →
      (s.writeFlags x s.flagN s.flagH s.flagC).f = (s.f &&& 0x7F#8) ||| (carryByte x <<< 7)
      ∧ (s.writeFlags s.flagZ x s.flagH s.flagC).f = (s.f &&& 0xBF#8) ||| (carryByte x <<< 6)
      ∧ (s.writeFlags s.flagZ s.flagN x s.flagC).f = (s.f &&& 0xDF#8) ||| (carryByte x <<< 5)
      ∧ (s.writeFlags s.flagZ s.flagN s.flagH x).f = (s.f &&& 0xEF#8) ||| (carryByte x <<< 4))

/-! ## Encoding -/

/-- Words written out from the encodings of R124, R125, R145, R149, R152, R174, R175, R183, R188, R191,
R208, R211, R213, R217, R220, R222, R225, R226 and R229. -/
def Obligations.DecodesSpecWords : Prop :=
  decode [0b01000001#8] = .ok (.ldBC, []) ∧ decode [0b00111110#8, 0x42#8] = .ok (.ldAN8 0x42#8, [])
  ∧ decode [0b00100001#8, 0x34#8, 0x12#8] = .ok (.ldHlN16 0x1234#16, [])
  ∧ decode [0b11110101#8] = .ok (.pushAf, []) ∧ decode [0b10000110#8] = .ok (.addAAtHl, [])
  ∧ decode [0b11111110#8, 0x2F#8] = .ok (.cpN8 0x2F#8, []) ∧ decode [0b00101100#8] = .ok (.incL, [])
  ∧ decode [0b00111001#8] = .ok (.addHlSp, []) ∧ decode [0b00001111#8] = .ok (.rrca, [])
  ∧ decode [0b11001011#8, 0b00000000#8] = .ok (.rlcB, []) ∧ decode [0b11001011#8, 0b01111110#8] = .ok (.bit7AtHl, [])
  ∧ decode [0b11001011#8, 0b11011011#8] = .ok (.set3E, [])
  ∧ decode [0b11000011#8, 0x50#8, 0x01#8] = .ok (.jpN16 0x0150#16, [])
  ∧ decode [0b00111000#8, 0x80#8] = .ok (.jrCE8 0x80#8, []) ∧ decode [0b11111111#8] = .ok (.rst38, [])
  ∧ decode [0b11010000#8] = .ok (.retNc, []) ∧ decode [0b01110110#8] = .ok (.halt, [])
  ∧ decode [0b00010000#8, 0x00#8] = .ok (.stop 0x00#8, []) ∧ decode [0b11010011#8] = .ok (.undefD3, [])

/-- Every well-formed instruction decodes from its own bytes, with every operand at every value, and
whatever follows is left. -/
def Obligations.DecodeOfEncode : Prop :=
  ∀ (i : Instr) (rest : List Byte), i.wellFormed = true → decode (encode i ++ rest) = .ok (i, rest)

/-- What decodes is a well-formed instruction whose bytes are those decoded; and every three bytes decode
(R119, R121). -/
def Obligations.EncodeOfDecode : Prop :=
  (∀ (bytes : List Byte) (i : Instr) (rest : List Byte), decode bytes = .ok (i, rest) →
    i.wellFormed = true ∧ encode i ++ rest = bytes)
  ∧ (∀ (b0 b1 b2 : Byte) (rest : List Byte), ∃ i left, decode (b0 :: b1 :: b2 :: rest) = .ok (i, left)
      ∧ (encode i).length = instrLength b0)

/-- R117: the eleven undefined bytes decode, as one byte, to an instruction that names the byte, and no
other byte does. -/
def Obligations.UndefinedBytes : Prop :=
  ∀ (b : Byte) (rest : List Byte),
    (b ∈ [0xD3#8, 0xDB#8, 0xDD#8, 0xE3#8, 0xE4#8, 0xEB#8, 0xEC#8, 0xED#8, 0xF4#8, 0xFC#8, 0xFD#8] →
      ∃ i, decode (b :: rest) = .ok (i, rest) ∧ i.form = .undefined b)
    ∧ (∀ i left u, decode (b :: rest) = .ok (i, left) → i.form = .undefined u →
        u = b ∧ b ∈ [0xD3#8, 0xDB#8, 0xDD#8, 0xE3#8, 0xE4#8, 0xEB#8, 0xEC#8, 0xED#8, 0xF4#8, 0xFC#8, 0xFD#8])

/-- R116: the byte after 0xCB selects a prefixed instruction by its fields, all 256 of them; the row PREFIX
CB means the row its byte 1 selects, and completes wherever the byte at HL can be accessed. That this row's
constructor `prefixCb` has a meaning of its own, although no bytes decode to it, is the model's choice (log 11). -/
def Obligations.PrefixRow : Prop :=
  (∀ (op : RotOp) (n : Fin 8) (r : Reg8),
    cbForm (0b00#2 ++ op.code ++ r.code) = .rotReg op r ∧ cbForm (0b00#2 ++ op.code ++ 6#3) = .rotHl op
    ∧ cbForm (0b01#2 ++ BitVec.ofNat 3 n.val ++ r.code) = .bitReg n r ∧ cbForm (0b01#2 ++ BitVec.ofNat 3 n.val ++ 6#3) = .bitHl n
    ∧ cbForm (0b10#2 ++ BitVec.ofNat 3 n.val ++ r.code) = .resReg n r ∧ cbForm (0b10#2 ++ BitVec.ofNat 3 n.val ++ 6#3) = .resHl n
    ∧ cbForm (0b11#2 ++ BitVec.ofNat 3 n.val ++ r.code) = .setReg n r ∧ cbForm (0b11#2 ++ BitVec.ofNat 3 n.val ++ 6#3) = .setHl n)
  ∧ (RotOp.rlc.code = 0#3 ∧ RotOp.rrc.code = 1#3 ∧ RotOp.rl.code = 2#3 ∧ RotOp.rr.code = 3#3
      ∧ RotOp.sla.code = 4#3 ∧ RotOp.sra.code = 5#3 ∧ RotOp.swap.code = 6#3 ∧ RotOp.srl.code = 7#3)
  ∧ (Reg8.b.code = 0#3 ∧ Reg8.c.code = 1#3 ∧ Reg8.d.code = 2#3 ∧ Reg8.e.code = 3#3 ∧ Reg8.h.code = 4#3
      ∧ Reg8.l.code = 5#3 ∧ Reg8.a.code = 7#3)
  ∧ (∀ (cbop : Byte) (rest : List Byte), ∃ i, decode (0xCB#8 :: cbop :: rest) = .ok (i, rest)
      ∧ i.form = .cb (cbForm cbop) ∧ (cbForm cbop).byte = cbop
      ∧ ∀ s : State, exec (.prefixCb cbop) s = exec i s
          ∧ (s.irBlocked s.hl = false → ∃ t, exec (.prefixCb cbop) s = .next t ∧ t.pc = s.pc
              ∧ (t.cycles = s.cycles + 8 ∨ t.cycles = s.cycles + 12 ∨ t.cycles = s.cycles + 16)))

/-! ## The step -/

/-- Where the bytes at PC decode to an instruction and no fetched byte is in HuC1's infrared window, the step
moves PC past the instruction, runs `exec`, applies a pending EI, and turns a model fault into the mark FAULT. -/
def Obligations.StepRunsDecoded : Prop :=
  ∀ (s : State) (i : Instr) (rest : List Byte), runsInstr s → decode (bytesAtPc s) = .ok (i, rest) →
    (∀ k, k < 3 - rest.length → s.irBlocked (s.pc + BitVec.ofNat 16 k) = false) →
    step s =
      match exec i { s with pc := s.pc + BitVec.ofNat 16 (3 - rest.length) } with
      | .next t => .next (if s.imePending = true ∧ t.imePending = true then { t with ime := true, imePending := false } else t)
      | .fault f => .next { s with fault := some f }
      | .refused r => .refused r

/-- R230, R251: a step in Locked or Stopped, or in Halted with nothing pending and enabled, adds 4 to CYCLES
and changes nothing else; in Halted with a request it also sets MODE to Running, and dispatches nothing. -/
def Obligations.IdleSteps : Prop :=
  ∀ s : State, s.fault = none →
    (s.mode = .locked ∨ s.mode = .stopped → step s = .next { s with cycles := s.cycles + 4 })
    ∧ (s.mode = .halted → s.ie &&& s.mem.read 0xFF0F &&& 0x1F#8 = 0#8 → step s = .next { s with cycles := s.cycles + 4 })
    ∧ (s.mode = .halted → s.ie &&& s.mem.read 0xFF0F &&& 0x1F#8 ≠ 0#8 →
        step s = .next { s with mode := .running, cycles := s.cycles + 4 })

/-- R241: the lowest pending and enabled source is dispatched before the instruction at PC: its request and
both enables are cleared, then PC is pushed, and PC goes to 0x40 + 8n, for 20 cycles; with SP = 0 the step
only marks F_IE_PUSH, and where the push would store into HuC1's infrared window it only marks F_HUC1_IR (R97,
R236). -/
def Obligations.InterruptEntry : Prop :=
  ∀ (s : State) (n : Nat), s.fault = none → s.mode = .running → s.ime = true → n < 5 →
    (s.ie &&& s.mem.read 0xFF0F).getLsbD n = true → (∀ m, m < n → (s.ie &&& s.mem.read 0xFF0F).getLsbD m = false) →
    (s.sp = 0#16 → step s = .next { s with fault := some .iePush })
    ∧ (s.sp ≠ 0#16 → pushFree s →
        let cleared : State :=
          { s with mem := s.mem.write 0xFF0F (s.mem.read 0xFF0F &&& ~~~(1#8 <<< n)), ime := false, imePending := false }
        step s = .next { pushed s.pc cleared with pc := BitVec.ofNat 16 (0x40 + 8 * n), cycles := s.cycles + 20 })
    ∧ (s.sp ≠ 0#16 → ¬ pushFree s → step s = .next { s with fault := some .huc1Ir })

/-- R236: a step that marks FAULT changes nothing else and costs 0, and a marked state has no further step
(the model answers the fault, log 9, DEDUCED); a step from an unmarked state always has a next state. -/
def Obligations.ModelFaultStep : Prop :=
  (∀ (s : State) (f : Fault), s.fault = some f → step s = .fault f)
  ∧ (∀ s : State, s.fault = none → ∃ t, step s = .next t)
  ∧ (∀ s t : State, step s = .next t → t.fault ≠ none → t = { s with fault := t.fault })

/-- R232: in the step after EI the instruction runs with IME still 0 and IME becomes 1 at its end, unless it
is DI; a step with no EI pending leaves IME and IME_PENDING as the instruction left them; an idle step and a
faulting one keep both; a dispatch clears both. -/
def Obligations.EiDelay : Prop :=
  (∀ (s t : State) (i : Instr) (rest : List Byte), runsInstr s → decode (bytesAtPc s) = .ok (i, rest) → step s = .next t →
    t.fault = none →
    (s.imePending = true → t.imePending = false ∧ (i.form = .di → t.ime = false) ∧ (i.form ≠ .di → t.ime = true))
    ∧ (s.imePending = false → t.imePending = decide (i.form = .ei)
        ∧ t.ime = (if i.form = .di then false else if i.form = .reti then true else s.ime)))
  ∧ (∀ s t : State, s.mode ≠ .running → step s = .next t → t.ime = s.ime ∧ t.imePending = s.imePending)
  ∧ (∀ s t : State, s.mode = .running → s.ime = true → s.pend ≠ 0#8 → step s = .next t → t.fault = none →
      t.ime = false ∧ t.imePending = false)
  ∧ (∀ s t : State, step s = .next t → t.fault ≠ none → t.ime = s.ime ∧ t.imePending = s.imePending)

/-- R235: a Locked core stays Locked through any steps and host actions without a reset, its registers, PC,
SP, enables and IE do not change, and CYCLES grows by 4 a step. -/
def Obligations.LockedForever : Prop :=
  ∀ (events : List Event) (s t : State), s.mode = .locked → s.fault = none → events.all (fun e => !isReset e) = true →
    runEvents events s = some t →
    t.mode = .locked ∧ t.fault = none ∧ t.pc = s.pc ∧ t.sp = s.sp ∧ (∀ r, t.reg r = s.reg r) ∧ t.f = s.f
    ∧ t.ime = s.ime ∧ t.imePending = s.imePending ∧ t.ie = s.ie
    ∧ t.cycles = s.cycles + 4 * (events.filter (fun e => e == .step)).length

/-- R231: a step costs a multiple of 4 between 4 and 24, and a step that marks FAULT costs 0 (R236). -/
def Obligations.CostsInRange : Prop :=
  ∀ s t : State, step s = .next t →
    (t.fault = none → s.cycles + 4 ≤ t.cycles ∧ t.cycles ≤ s.cycles + 24 ∧ (t.cycles - s.cycles) % 4 = 0)
    ∧ (t.fault ≠ none → t.cycles = s.cycles)

/-- R246: `emulate` runs no step on a budget <= 0, takes one step's cost off a positive one and goes on; it
returns what CYCLES leaves of the budget, more than 0 only where a model fault stopped it, and at least -23,
which R246 marks as derived from R231. The loop is a recursion on the budget, the model's deduction (log 19). -/
def Obligations.EmulateBudget : Prop :=
  ∀ (budget : Int) (s : State), s.fault = none →
    (budget ≤ 0 → emulate budget s = (budget, s))
    ∧ (0 < budget → ∀ t, step s = .next t → emulate budget s = emulate (budget - ((t.cycles : Int) - s.cycles)) t)
    ∧ (emulate budget s).1 = budget - (((emulate budget s).2.cycles : Int) - s.cycles)
    ∧ (0 < (emulate budget s).1 → (emulate budget s).2.fault ≠ none)
    ∧ (0 < budget → -23 ≤ (emulate budget s).1)

/-! ## Invariants -/

/-- Every step keeps the invariant: F's low nibble zero (R27), the storage canonical and only of bytes that
exist (R34), and a loaded cartridge well formed: its header its image's, its controller its type byte's, its
RAM within CRAM_SIZE, MBC1's, MBC2's and MBC3's bank registers not 0 (R78), MBC2's cells four bits (R85). -/
def Obligations.StepKeepsWf : Prop :=
  ∀ s t : State, s.wf = true → step s = .next t → t.wf = true

/-- The invariant holds right after reset, in both configurations. -/
def Obligations.ResetWf : Prop :=
  State.reset.wf = true ∧ ∀ (boot : Bool) (init : InitMem), (hostReset boot init State.reset).wf = true

/-- Every action the host may take keeps the invariant, the load of any image included. -/
def Obligations.HostActionsKeepWf : Prop :=
  ∀ (act : HostAction) (s t : State), s.wf = true → act.apply s = some t → t.wf = true

/-- No step changes the ROM image, the header, the features or the kind of the cartridge, loads one or
unloads one (R36, R55), or maps the boot ROM again (R63). -/
def Obligations.CartridgeIdentity : Prop :=
  ∀ s t : State, step s = .next t → cartIdentity t = cartIdentity s ∧ (t.bootMapped = true → s.bootMapped = true)

/-- R31, R251: a step leaves Running only by HALT, STOP or an undefined opcode at PC, into the mode of that
instruction; it leaves Halted only to Running, with a request pending and enabled; it leaves Stopped and
Locked never. -/
def Obligations.ModeChanges : Prop :=
  ∀ s t : State, step s = .next t → t.mode ≠ s.mode →
    (s.mode = .halted ∧ t.mode = .running ∧ s.ie &&& s.mem.read 0xFF0F &&& 0x1F#8 ≠ 0#8)
    ∨ (s.mode = .running ∧ ∃ i rest, decode (bytesAtPc s) = .ok (i, rest)
        ∧ ((i.form = .halt ∧ t.mode = .halted) ∨ ((∃ n, i.form = .stop n) ∧ t.mode = .stopped)
            ∨ ((∃ b, i.form = .undefined b) ∧ t.mode = .locked)))

/-! ## Frames -/

/-- The registers an instruction leaves unchanged: every 8-bit register it does not name as a destination,
and SP where its rule does not write it. -/
def Obligations.RegisterFrame : Prop :=
  ∀ (i : Instr) (s t : State), exec i s = .next t →
    (∀ r, r ∉ i.form.footprint.regs → t.reg r = s.reg r) ∧ (i.form.footprint.sp = false → t.sp = s.sp)

/-- The flags an instruction leaves unchanged: each that its rule does not write; and F's low nibble stays
zero (R27, R28). -/
def Obligations.FlagFrame : Prop :=
  ∀ (i : Instr) (s t : State), exec i s = .next t →
    (i.form.footprint.flags.z = false → t.flagZ = s.flagZ) ∧ (i.form.footprint.flags.n = false → t.flagN = s.flagN)
    ∧ (i.form.footprint.flags.h = false → t.flagH = s.flagH) ∧ (i.form.footprint.flags.c = false → t.flagC = s.flagC)
    ∧ (s.f &&& 0x0F#8 = 0#8 → t.f &&& 0x0F#8 = 0#8)

/-- The control state an instruction leaves unchanged: IME but for DI and RETI, IME_PENDING but for EI, DI
and RETI, MODE but for HALT, STOP and the undefined opcodes, FAULT always, PC but for a control transfer. -/
def Obligations.ControlFrame : Prop :=
  ∀ (i : Instr) (s t : State), exec i s = .next t →
    (i.form ≠ .di → i.form ≠ .reti → t.ime = s.ime)
    ∧ (i.form ≠ .di → i.form ≠ .reti → i.form ≠ .ei → t.imePending = s.imePending)
    ∧ (i.form ≠ .halt → (∀ n, i.form ≠ .stop n) → (∀ b, i.form ≠ .undefined b) → t.mode = s.mode)
    ∧ t.fault = s.fault ∧ (i.form.footprint.pc = false → t.pc = s.pc)

/-- The memory an instruction leaves unchanged, by the addresses its form stores to. Storage: every byte no
store names, IE, the cartridge and BOOT_MAPPED. The bus: every address none of the stores reaches reads as
before. A form that stores nothing changes none of it. -/
def Obligations.MemoryFrame : Prop :=
  ∀ (i : Instr) (s t : State), exec i s = .next t →
    (∀ key, (∀ a ∈ i.form.storesTo s, backing a ≠ .store key) → t.mem.read key = s.mem.read key)
    ∧ ((∀ a ∈ i.form.storesTo s, a ≠ 0xFFFF#16) → t.ie = s.ie)
    ∧ ((∀ a ∈ i.form.storesTo s, 0x7FFF < a.toNat ∧ ¬ inRamWindow a) → t.cart = s.cart)
    ∧ ((∀ a ∈ i.form.storesTo s, a ≠ 0xFF50#16) → t.bootMapped = s.bootMapped)
    ∧ (∀ b, (∀ a ∈ i.form.storesTo s, s.storeReaches a b = false) → t.busRead b = s.busRead b)
    ∧ (i.form.storesTo s = [] → t.mem = s.mem ∧ t.ie = s.ie ∧ t.cart = s.cart ∧ t.bootMapped = s.bootMapped)

/-! ## 8-bit loads -/

/-- LD r,r' and LD r,n8: the register, no flag, the cost (R124, R125). -/
def Obligations.LoadRegister : Prop :=
  ∀ (i : Instr) (s : State) (dst src : Reg8) (n : Byte),
    (i.form = .ldRegReg dst src → encode i = [0b01#2 ++ dst.code ++ src.code]
      ∧ exec i s = .next { s.setReg dst (s.reg src) with cycles := s.cycles + 4 })
    ∧ (i.form = .ldRegImm dst n → encode i = [0b00#2 ++ dst.code ++ 0b110#3, n]
      ∧ exec i s = .next { s.setReg dst n with cycles := s.cycles + 8 })

/-- The loads from memory: LD r,(HL), LD A,(BC), LD A,(DE), LD A,(n16), LDH A,(a8), LD A,(C) (R126, R129,
R130, R137, R139, R141). -/
def Obligations.LoadFromMemory : Prop :=
  ∀ (i : Instr) (s : State) (dst : Reg8) (n : Addr) (n8 : Byte),
    (i.form = .ldRegHl dst → s.irBlocked s.hl = false → encode i = [0b01#2 ++ dst.code ++ 0b110#3]
      ∧ exec i s = .next { s.setReg dst (s.busRead s.hl) with cycles := s.cycles + 8 })
    ∧ (i.form = .ldABc → s.irBlocked s.bc = false → encode i = [0x0A#8]
      ∧ exec i s = .next { s with a := s.busRead s.bc, cycles := s.cycles + 8 })
    ∧ (i.form = .ldADe → s.irBlocked s.de = false → encode i = [0x1A#8]
      ∧ exec i s = .next { s with a := s.busRead s.de, cycles := s.cycles + 8 })
    ∧ (i.form = .ldAAbs n → s.irBlocked n = false → encode i = [0xFA#8, lowByte n, highByte n]
      ∧ exec i s = .next { s with a := s.busRead n, cycles := s.cycles + 16 })
    ∧ (i.form = .ldAHigh n8 → encode i = [0xF0#8, n8]
      ∧ exec i s = .next { s with a := s.busRead (BitVec.ofNat 16 (0xFF00 + n8.toNat)), cycles := s.cycles + 12 })
    ∧ (i.form = .ldAHighC → encode i = [0xF2#8]
      ∧ exec i s = .next { s with a := s.busRead (BitVec.ofNat 16 (0xFF00 + s.c.toNat)), cycles := s.cycles + 8 })

/-- The stores: LD (HL),r, LD (HL),n8, LD (BC),A, LD (DE),A, LD (n16),A, LDH (a8),A, LD (C),A (R127, R128,
R131, R132, R138, R140, R142). -/
def Obligations.StoreToMemory : Prop :=
  ∀ (i : Instr) (s : State) (src : Reg8) (n : Addr) (n8 : Byte),
    (i.form = .ldHlReg src → s.irBlocked s.hl = false → encode i = [0b01110#5 ++ src.code]
      ∧ exec i s = .next { s.busWrite s.hl (s.reg src) with cycles := s.cycles + 8 })
    ∧ (i.form = .ldHlImm n8 → s.irBlocked s.hl = false → encode i = [0x36#8, n8]
      ∧ exec i s = .next { s.busWrite s.hl n8 with cycles := s.cycles + 12 })
    ∧ (i.form = .ldBcA → s.irBlocked s.bc = false → encode i = [0x02#8]
      ∧ exec i s = .next { s.busWrite s.bc s.a with cycles := s.cycles + 8 })
    ∧ (i.form = .ldDeA → s.irBlocked s.de = false → encode i = [0x12#8]
      ∧ exec i s = .next { s.busWrite s.de s.a with cycles := s.cycles + 8 })
    ∧ (i.form = .ldAbsA n → s.irBlocked n = false → encode i = [0xEA#8, lowByte n, highByte n]
      ∧ exec i s = .next { s.busWrite n s.a with cycles := s.cycles + 16 })
    ∧ (i.form = .ldHighA n8 → encode i = [0xE0#8, n8]
      ∧ exec i s = .next { s.busWrite (BitVec.ofNat 16 (0xFF00 + n8.toNat)) s.a with cycles := s.cycles + 12 })
    ∧ (i.form = .ldHighCA → encode i = [0xE2#8]
      ∧ exec i s = .next { s.busWrite (BitVec.ofNat 16 (0xFF00 + s.c.toNat)) s.a with cycles := s.cycles + 8 })

/-- A through HL with HL stepped after the access, modulo 2^16 (R133 to R136). -/
def Obligations.HlStep : Prop :=
  ∀ (i : Instr) (s : State), s.irBlocked s.hl = false →
    (i.form = .ldHlIncA → encode i = [0x22#8]
      ∧ exec i s = .next { (s.busWrite s.hl s.a).setHl (BitVec.ofNat 16 (s.hl.toNat + 1)) with cycles := s.cycles + 8 })
    ∧ (i.form = .ldHlDecA → encode i = [0x32#8]
      ∧ exec i s = .next { (s.busWrite s.hl s.a).setHl (BitVec.ofInt 16 ((s.hl.toNat : Int) - 1)) with cycles := s.cycles + 8 })
    ∧ (i.form = .ldAHlInc → encode i = [0x2A#8]
      ∧ exec i s = .next { s.setHl (BitVec.ofNat 16 (s.hl.toNat + 1)) with a := s.busRead s.hl, cycles := s.cycles + 8 })
    ∧ (i.form = .ldAHlDec → encode i = [0x3A#8]
      ∧ exec i s = .next { s.setHl (BitVec.ofInt 16 ((s.hl.toNat : Int) - 1)) with a := s.busRead s.hl, cycles := s.cycles + 8 })

/-! ## 16-bit loads and the stack -/

/-- LD dd,n16; LD (n16),SP; LD SP,HL; LD HL,SP+e8 with its flags (R145 to R148). -/
def Obligations.Load16 : Prop :=
  ∀ (i : Instr) (s : State) (p : Pair) (n : Addr) (n8 : Byte),
    (i.form = .ldPairImm p n → encode i = [0b00#2 ++ p.code ++ 0b0001#4, lowByte n, highByte n]
      ∧ exec i s = .next { s.setPair p n with cycles := s.cycles + 12 })
    ∧ (i.form = .ldAbsSp n → s.irBlocked n = false → s.irBlocked (n + 1#16) = false →
      encode i = [0x08#8, lowByte n, highByte n]
      ∧ exec i s = .next { (s.busWrite n (lowByte s.sp)).busWrite (n + 1#16) (highByte s.sp) with cycles := s.cycles + 20 })
    ∧ (i.form = .ldSpHl → encode i = [0xF9#8] ∧ exec i s = .next { s with sp := s.hl, cycles := s.cycles + 8 })
    ∧ (i.form = .ldHlSpOff n8 → encode i = [0xF8#8, n8]
      ∧ exec i s = .next { s.setHl (BitVec.ofInt 16 (s.sp.toNat + n8.toInt)) with
          f := packFlags false false (0x0F < s.sp.toNat % 16 + n8.toNat % 16) (0xFF < s.sp.toNat % 256 + n8.toNat)
          cycles := s.cycles + 12 })

/-- R143: Push. R149: PUSH qq. -/
def Obligations.PushPair : Prop :=
  (∀ (s : State) (w : Addr) (k : State → Result), pushFree s → push w s k = k (pushed w s))
  ∧ (∀ (i : Instr) (s : State) (q : StackPair), i.form = .push q → pushFree s →
      encode i = [0b11#2 ++ q.code ++ 0b0101#4]
      ∧ exec i s = .next { pushed (s.stackPair q) s with cycles := s.cycles + 16 })

/-- R144: Pop. R150: POP qq; POP AF keeps F's low nibble zero. -/
def Obligations.PopPair : Prop :=
  (∀ (s : State) (k : Addr → State → Result), popFree s → pop s k = k (popped s) { s with sp := s.sp + 2#16 })
  ∧ (∀ (i : Instr) (s : State) (q : StackPair), i.form = .pop q → popFree s →
      encode i = [0b11#2 ++ q.code ++ 0b0001#4]
      ∧ exec i s = .next { s.setStackPair q (popped s) with sp := s.sp + 2#16, cycles := s.cycles + 12 })

/-- R51: where both stack slots are RAM, or IE and the byte below it (SP0 = 0, "ordinary storage", R218), a push
leaves its low byte at SP0 - 2 and its high byte at SP0 - 1, and a pop after it gives the word and SP back. -/
def Obligations.StackRoundTrip : Prop :=
  ∀ (s : State) (w : Addr), s.mem.wf = true → isRam (s.sp - 1#16) ∨ s.sp = 0#16 → isRam (s.sp - 2#16) →
    (pushed w s).busRead (s.sp - 2#16) = lowByte w ∧ (pushed w s).busRead (s.sp - 1#16) = highByte w
    ∧ popped (pushed w s) = w ∧ (pushed w s).sp + 2#16 = s.sp

/-! ## 8-bit arithmetic -/

/-- ADD and ADC, in their three operand forms (R151 to R156). -/
def Obligations.AddAdc : Prop :=
  ∀ (i : Instr) (s : State) (r : Reg8) (n : Byte),
    (i.form = .aluReg .add r → encode i = [0b10000#5 ++ r.code] ∧ exec i s = .next (added s (s.reg r) 0 4))
    ∧ (i.form = .aluHl .add → s.irBlocked s.hl = false → encode i = [0x86#8] ∧ exec i s = .next (added s (s.busRead s.hl) 0 8))
    ∧ (i.form = .aluImm .add n → encode i = [0xC6#8, n] ∧ exec i s = .next (added s n 0 8))
    ∧ (i.form = .aluReg .adc r → encode i = [0b10001#5 ++ r.code] ∧ exec i s = .next (added s (s.reg r) (carryNat s.flagC) 4))
    ∧ (i.form = .aluHl .adc → s.irBlocked s.hl = false → encode i = [0x8E#8]
      ∧ exec i s = .next (added s (s.busRead s.hl) (carryNat s.flagC) 8))
    ∧ (i.form = .aluImm .adc n → encode i = [0xCE#8, n] ∧ exec i s = .next (added s n (carryNat s.flagC) 8))

/-- SUB, SBC and CP, in their three operand forms (R157 to R162, R172 to R174). -/
def Obligations.SubSbcCp : Prop :=
  ∀ (i : Instr) (s : State) (r : Reg8) (n : Byte),
    (i.form = .aluReg .sub r → encode i = [0b10010#5 ++ r.code] ∧ exec i s = .next (subtracted s (s.reg r) 0 4))
    ∧ (i.form = .aluHl .sub → s.irBlocked s.hl = false → encode i = [0x96#8]
      ∧ exec i s = .next (subtracted s (s.busRead s.hl) 0 8))
    ∧ (i.form = .aluImm .sub n → encode i = [0xD6#8, n] ∧ exec i s = .next (subtracted s n 0 8))
    ∧ (i.form = .aluReg .sbc r → encode i = [0b10011#5 ++ r.code]
      ∧ exec i s = .next (subtracted s (s.reg r) (carryNat s.flagC) 4))
    ∧ (i.form = .aluHl .sbc → s.irBlocked s.hl = false → encode i = [0x9E#8]
      ∧ exec i s = .next (subtracted s (s.busRead s.hl) (carryNat s.flagC) 8))
    ∧ (i.form = .aluImm .sbc n → encode i = [0xDE#8, n] ∧ exec i s = .next (subtracted s n (carryNat s.flagC) 8))
    ∧ (i.form = .aluReg .cp r → encode i = [0b10111#5 ++ r.code] ∧ exec i s = .next (compared s (s.reg r) 4))
    ∧ (i.form = .aluHl .cp → s.irBlocked s.hl = false → encode i = [0xBE#8] ∧ exec i s = .next (compared s (s.busRead s.hl) 8))
    ∧ (i.form = .aluImm .cp n → encode i = [0xFE#8, n] ∧ exec i s = .next (compared s n 8))

/-- AND, XOR and OR, in their three operand forms; XOR A is always 0x00 with Z alone set (R163 to R171). -/
def Obligations.Logic8 : Prop :=
  ∀ (i : Instr) (s : State) (r : Reg8) (n : Byte),
    (i.form = .aluReg .and r → encode i = [0b10100#5 ++ r.code] ∧ exec i s = .next (logical s (s.a &&& s.reg r) true 4))
    ∧ (i.form = .aluHl .and → s.irBlocked s.hl = false → encode i = [0xA6#8]
      ∧ exec i s = .next (logical s (s.a &&& s.busRead s.hl) true 8))
    ∧ (i.form = .aluImm .and n → encode i = [0xE6#8, n] ∧ exec i s = .next (logical s (s.a &&& n) true 8))
    ∧ (i.form = .aluReg .xor r → encode i = [0b10101#5 ++ r.code] ∧ exec i s = .next (logical s (s.a ^^^ s.reg r) false 4))
    ∧ (i.form = .aluHl .xor → s.irBlocked s.hl = false → encode i = [0xAE#8]
      ∧ exec i s = .next (logical s (s.a ^^^ s.busRead s.hl) false 8))
    ∧ (i.form = .aluImm .xor n → encode i = [0xEE#8, n] ∧ exec i s = .next (logical s (s.a ^^^ n) false 8))
    ∧ (i.form = .aluReg .or r → encode i = [0b10110#5 ++ r.code] ∧ exec i s = .next (logical s (s.a ||| s.reg r) false 4))
    ∧ (i.form = .aluHl .or → s.irBlocked s.hl = false → encode i = [0xB6#8]
      ∧ exec i s = .next (logical s (s.a ||| s.busRead s.hl) false 8))
    ∧ (i.form = .aluImm .or n → encode i = [0xF6#8, n] ∧ exec i s = .next (logical s (s.a ||| n) false 8))
    ∧ (i.form = .aluReg .xor .a → exec i s = .next { s with a := 0x00#8, f := 0x80#8, cycles := s.cycles + 4 })

/-- INC and DEC of a register and of the byte at HL: C kept; the byte is read, then written (R175 to R178). -/
def Obligations.IncDec8 : Prop :=
  ∀ (i : Instr) (s : State) (r : Reg8),
    let up (v : Byte) : Byte := BitVec.ofNat 8 (v.toNat + 1)
    let upF (v : Byte) : Byte := packFlags ((v.toNat + 1) % 256 = 0) false (v.toNat % 16 = 15) s.flagC
    let down (v : Byte) : Byte := BitVec.ofInt 8 ((v.toNat : Int) - 1)
    let downF (v : Byte) : Byte := packFlags (v.toNat = 1) true (v.toNat % 16 = 0) s.flagC
    (i.form = .incReg r → encode i = [0b00#2 ++ r.code ++ 0b100#3]
      ∧ exec i s = .next { s.setReg r (up (s.reg r)) with f := upF (s.reg r), cycles := s.cycles + 4 })
    ∧ (i.form = .incAtHl → s.irBlocked s.hl = false → encode i = [0x34#8]
      ∧ exec i s = .next { s.busWrite s.hl (up (s.busRead s.hl)) with f := upF (s.busRead s.hl), cycles := s.cycles + 12 })
    ∧ (i.form = .decReg r → encode i = [0b00#2 ++ r.code ++ 0b101#3]
      ∧ exec i s = .next { s.setReg r (down (s.reg r)) with f := downF (s.reg r), cycles := s.cycles + 4 })
    ∧ (i.form = .decAtHl → s.irBlocked s.hl = false → encode i = [0x35#8]
      ∧ exec i s = .next { s.busWrite s.hl (down (s.busRead s.hl)) with f := downF (s.busRead s.hl), cycles := s.cycles + 12 })

/-- DAA on every A and F, N kept (R179). -/
def Obligations.DecimalAdjust : Prop :=
  ∀ (i : Instr) (s : State), i.form = .daa → encode i = [0x27#8]
    ∧ exec i s = .next { s with
        a := daaResult s, f := packFlags (daaResult s = 0#8) s.flagN false (daaCarry s), cycles := s.cycles + 4 }

/-- CPL, SCF and CCF: the flags each writes, Z kept, and C kept by CPL (R180 to R182). -/
def Obligations.CplScfCcf : Prop :=
  ∀ (i : Instr) (s : State),
    (i.form = .cpl → encode i = [0x2F#8]
      ∧ exec i s = .next { s with
          a := BitVec.ofNat 8 (255 - s.a.toNat), f := packFlags s.flagZ true true s.flagC, cycles := s.cycles + 4 })
    ∧ (i.form = .scf → encode i = [0x37#8]
      ∧ exec i s = .next { s with f := packFlags s.flagZ false false true, cycles := s.cycles + 4 })
    ∧ (i.form = .ccf → encode i = [0x3F#8]
      ∧ exec i s = .next { s with f := packFlags s.flagZ false false (!s.flagC), cycles := s.cycles + 4 })

/-- ADD HL,ss; INC ss; DEC ss; ADD SP,e8 (R183 to R186). -/
def Obligations.Arith16 : Prop :=
  ∀ (i : Instr) (s : State) (p : Pair) (n8 : Byte),
    (i.form = .addHl p → encode i = [0b00#2 ++ p.code ++ 0b1001#4]
      ∧ exec i s = .next { s.setHl (BitVec.ofNat 16 (s.hl.toNat + (s.pair p).toNat)) with
          f := packFlags s.flagZ false (0x0FFF < s.hl.toNat % 4096 + (s.pair p).toNat % 4096)
            (0xFFFF < s.hl.toNat + (s.pair p).toNat)
          cycles := s.cycles + 8 })
    ∧ (i.form = .incPair p → encode i = [0b00#2 ++ p.code ++ 0b0011#4]
      ∧ exec i s = .next { s.setPair p (BitVec.ofNat 16 ((s.pair p).toNat + 1)) with cycles := s.cycles + 8 })
    ∧ (i.form = .decPair p → encode i = [0b00#2 ++ p.code ++ 0b1011#4]
      ∧ exec i s = .next { s.setPair p (BitVec.ofInt 16 (((s.pair p).toNat : Int) - 1)) with cycles := s.cycles + 8 })
    ∧ (i.form = .addSp n8 → encode i = [0xE8#8, n8]
      ∧ exec i s = .next { s with
          sp := BitVec.ofInt 16 (s.sp.toNat + n8.toInt)
          f := packFlags false false (0x0F < s.sp.toNat % 16 + n8.toNat % 16) (0xFF < s.sp.toNat % 256 + n8.toNat)
          cycles := s.cycles + 16 })

/-! ## Rotates, shifts and bits -/

/-- RLCA, RRCA, RLA, RRA: Z = 0 always (R187 to R190). -/
def Obligations.RotateA : Prop :=
  ∀ (i : Instr) (s : State),
    let rotated (op : RotOp) : State :=
      { s with
        a := shiftedByte op s.a s.flagC
        f := packFlags false false false (shiftedCarry op s.a.toNat), cycles := s.cycles + 4 }
    (i.form = .rlca → encode i = [0x07#8] ∧ exec i s = .next (rotated .rlc))
    ∧ (i.form = .rrca → encode i = [0x0F#8] ∧ exec i s = .next (rotated .rrc))
    ∧ (i.form = .rla → encode i = [0x17#8] ∧ exec i s = .next (rotated .rl))
    ∧ (i.form = .rra → encode i = [0x1F#8] ∧ exec i s = .next (rotated .rr))

/-- RLC, RRC, RL, RR, SLA, SRA, SWAP and SRL of a register, PREFIX CB with such a byte 1 included (R191,
R193, R195, R197, R199, R201, R203, R205). -/
def Obligations.RotateRegister : Prop :=
  ∀ (i : Instr) (s : State) (op : RotOp) (r : Reg8), i.form = .cb (.rotReg op r) →
    encode i = [0xCB#8, 0b00#2 ++ op.code ++ r.code]
    ∧ exec i s = .next { s.setReg r (shiftedByte op (s.reg r) s.flagC) with
        f := shiftedFlags op (s.reg r) s.flagC, cycles := s.cycles + 8 }

/-- The same of the byte at HL: read, then written (R192, R194, R196, R198, R200, R202, R204, R206). -/
def Obligations.RotateAtHl : Prop :=
  ∀ (i : Instr) (s : State) (op : RotOp), i.form = .cb (.rotHl op) → s.irBlocked s.hl = false →
    encode i = [0xCB#8, 0b00#2 ++ op.code ++ 0b110#3]
    ∧ exec i s = .next { s.busWrite s.hl (shiftedByte op (s.busRead s.hl) s.flagC) with
        f := shiftedFlags op (s.busRead s.hl) s.flagC, cycles := s.cycles + 16 }

/-- BIT b,r and BIT b,(HL): nothing written but Z, N and H (R207, R208). -/
def Obligations.BitTest : Prop :=
  ∀ (i : Instr) (s : State) (n : Fin 8) (r : Reg8),
    (i.form = .cb (.bitReg n r) → encode i = [0xCB#8, 0b01#2 ++ BitVec.ofNat 3 n.val ++ r.code]
      ∧ exec i s = .next { s with f := testedFlags n (s.reg r) s, cycles := s.cycles + 8 })
    ∧ (i.form = .cb (.bitHl n) → s.irBlocked s.hl = false → encode i = [0xCB#8, 0b01#2 ++ BitVec.ofNat 3 n.val ++ 0b110#3]
      ∧ exec i s = .next { s with f := testedFlags n (s.busRead s.hl) s, cycles := s.cycles + 12 })

/-- RES and SET of a register and of the byte at HL: no flag; the byte is always written back (R209 to R212). -/
def Obligations.ResetSetBit : Prop :=
  ∀ (i : Instr) (s : State) (n : Fin 8) (r : Reg8),
    let mask : Byte := BitVec.ofNat 8 (2 ^ n.val)
    (i.form = .cb (.resReg n r) → encode i = [0xCB#8, 0b10#2 ++ BitVec.ofNat 3 n.val ++ r.code]
      ∧ exec i s = .next { s.setReg r (s.reg r &&& ~~~mask) with cycles := s.cycles + 8 })
    ∧ (i.form = .cb (.resHl n) → s.irBlocked s.hl = false → encode i = [0xCB#8, 0b10#2 ++ BitVec.ofNat 3 n.val ++ 0b110#3]
      ∧ exec i s = .next { s.busWrite s.hl (s.busRead s.hl &&& ~~~mask) with cycles := s.cycles + 16 })
    ∧ (i.form = .cb (.setReg n r) → encode i = [0xCB#8, 0b11#2 ++ BitVec.ofNat 3 n.val ++ r.code]
      ∧ exec i s = .next { s.setReg r (s.reg r ||| mask) with cycles := s.cycles + 8 })
    ∧ (i.form = .cb (.setHl n) → s.irBlocked s.hl = false → encode i = [0xCB#8, 0b11#2 ++ BitVec.ofNat 3 n.val ++ 0b110#3]
      ∧ exec i s = .next { s.busWrite s.hl (s.busRead s.hl ||| mask) with cycles := s.cycles + 16 })

/-! ## Control flow -/

/-- The conditions of R108, and JP, JP cc, JP HL, JR, JR cc: PC from PC_next, taken and not taken costs
(R213 to R217). -/
def Obligations.Jumps : Prop :=
  ∀ (i : Instr) (s : State) (cc : Cond) (n : Addr) (n8 : Byte),
    (s.cond .nz = (s.f.getLsbD 7 == false) ∧ s.cond .z = s.f.getLsbD 7 ∧ s.cond .nc = (s.f.getLsbD 4 == false)
      ∧ s.cond .c = s.f.getLsbD 4)
    ∧ (i.form = .jp n → encode i = [0xC3#8, lowByte n, highByte n]
      ∧ exec i s = .next { s with pc := n, cycles := s.cycles + 16 })
    ∧ (i.form = .jpCond cc n → encode i = [0b110#3 ++ cc.code ++ 0b010#3, lowByte n, highByte n]
      ∧ exec i s = .next (if s.cond cc = true then { s with pc := n, cycles := s.cycles + 16 }
          else { s with cycles := s.cycles + 12 }))
    ∧ (i.form = .jpHl → encode i = [0xE9#8] ∧ exec i s = .next { s with pc := s.hl, cycles := s.cycles + 4 })
    ∧ (i.form = .jr n8 → encode i = [0x18#8, n8]
      ∧ exec i s = .next { s with pc := BitVec.ofInt 16 (s.pc.toNat + n8.toInt), cycles := s.cycles + 12 })
    ∧ (i.form = .jrCond cc n8 → encode i = [0b001#3 ++ cc.code ++ 0b000#3, n8]
      ∧ exec i s = .next (if s.cond cc = true then
            { s with pc := BitVec.ofInt 16 (s.pc.toNat + n8.toInt), cycles := s.cycles + 12 }
          else { s with cycles := s.cycles + 8 }))

/-- CALL, CALL cc and RST: PC_next pushed, PC to the target; not taken, nothing is pushed (R218 to R220). -/
def Obligations.Calls : Prop :=
  ∀ (i : Instr) (s : State) (cc : Cond) (n : Addr) (t : Fin 8),
    (i.form = .call n → pushFree s → encode i = [0xCD#8, lowByte n, highByte n]
      ∧ exec i s = .next { pushed s.pc s with pc := n, cycles := s.cycles + 24 })
    ∧ (i.form = .callCond cc n → s.cond cc = true → pushFree s →
      encode i = [0b110#3 ++ cc.code ++ 0b100#3, lowByte n, highByte n]
      ∧ exec i s = .next { pushed s.pc s with pc := n, cycles := s.cycles + 24 })
    ∧ (i.form = .callCond cc n → s.cond cc = false → exec i s = .next { s with cycles := s.cycles + 12 })
    ∧ (i.form = .rst t → pushFree s → encode i = [0b11#2 ++ BitVec.ofNat 3 t.val ++ 0b111#3]
      ∧ exec i s = .next { pushed s.pc s with pc := BitVec.ofNat 16 (8 * t.val), cycles := s.cycles + 16 })

/-- RET, RET cc and RETI: PC from the stack; not taken, nothing is read; RETI sets IME at once (R221 to R223). -/
def Obligations.Returns : Prop :=
  ∀ (i : Instr) (s : State) (cc : Cond),
    (i.form = .ret → popFree s → encode i = [0xC9#8]
      ∧ exec i s = .next { s with sp := s.sp + 2#16, pc := popped s, cycles := s.cycles + 16 })
    ∧ (i.form = .retCond cc → s.cond cc = true → popFree s → encode i = [0b110#3 ++ cc.code ++ 0b000#3]
      ∧ exec i s = .next { s with sp := s.sp + 2#16, pc := popped s, cycles := s.cycles + 20 })
    ∧ (i.form = .retCond cc → s.cond cc = false → exec i s = .next { s with cycles := s.cycles + 8 })
    ∧ (i.form = .reti → popFree s → encode i = [0xD9#8]
      ∧ exec i s = .next { s with
          sp := s.sp + 2#16, pc := popped s, ime := true, imePending := false, cycles := s.cycles + 16 })

/-! ## System -/

/-- NOP, STOP, DI, EI and the eleven undefined opcodes (R224, R226 to R229). -/
def Obligations.SystemInstructions : Prop :=
  ∀ (i : Instr) (s : State) (b : Byte),
    (i.form = .nop → encode i = [0x00#8] ∧ exec i s = .next { s with cycles := s.cycles + 4 })
    ∧ (i.form = .stop b → encode i = [0x10#8, b] ∧ exec i s = .next { s with mode := .stopped, cycles := s.cycles + 4 })
    ∧ (i.form = .di → encode i = [0xF3#8]
      ∧ exec i s = .next { s with ime := false, imePending := false, cycles := s.cycles + 4 })
    ∧ (i.form = .ei → encode i = [0xFB#8] ∧ exec i s = .next { s with imePending := true, cycles := s.cycles + 4 })
    ∧ (i.form = .undefined b → encode i = [b] ∧ exec i s = .next { s with mode := .locked, cycles := s.cycles + 4 })

/-- R225: HALT enters Halted, but with IME = 0 and a request pending and enabled it raises F_HALT_BUG. -/
def Obligations.Halt : Prop :=
  ∀ (i : Instr) (s : State), i.form = .halt → encode i = [0x76#8]
    ∧ (s.ime = true ∨ s.ie &&& s.mem.read 0xFF0F &&& 0x1F#8 = 0#8 →
        exec i s = .next { s with mode := .halted, cycles := s.cycles + 4 })
    ∧ (s.ime = false → s.ie &&& s.mem.read 0xFF0F &&& 0x1F#8 ≠ 0#8 → exec i s = .fault .haltBug)

/-- When an instruction does not complete: F_HUC1_IR exactly where an access of it is to the window
0xA000-0xBFFF of a HuC1 in infrared mode (R97), F_HALT_BUG exactly at HALT's condition (R225); in every other
case it has a next state, and it is never refused. Where any byte of the instruction at PC is in that window,
the first or a later one, the step only marks F_HUC1_IR. -/
def Obligations.TrapsExactly : Prop :=
  ∀ (i : Instr) (s : State),
    ((∃ a ∈ i.form.accesses s, s.irBlocked a = true) → exec i s = .fault .huc1Ir)
    ∧ ((∀ a ∈ i.form.accesses s, s.irBlocked a = false) →
        (i.form = .halt ∧ s.ime = false ∧ s.pend ≠ 0#8 → exec i s = .fault .haltBug)
        ∧ (¬ (i.form = .halt ∧ s.ime = false ∧ s.pend ≠ 0#8) → ∃ t, exec i s = .next t))
    ∧ (∀ a : Addr, s.irBlocked a = true ↔
        inRamWindow a ∧ ∃ c r, s.cart = some c ∧ c.mbc = .huc1 r ∧ r.irmode = true)
    ∧ (∀ k, runsInstr s → k < instrLength (s.busRead s.pc) → s.irBlocked (s.pc + BitVec.ofNat 16 k) = true →
        step s = .next { s with fault := some .huc1Ir })

/-! ## The bus -/

/-- R57: what a read gives, and R58: what a write leaves, by the address map; no cartridge, open bus and no
effect (R62); the boot ROM answers reads at 0x0000-0x00FF while it is mapped, and a nonzero byte at 0xFF50
unmaps it (R63). The host's read and an instruction's read are this read, but for infrared mode (R97). -/
def Obligations.AddressMap : Prop :=
  ∀ (s : State) (a : Addr) (v : Byte),
    let cartByte : Byte := match s.cart with | none => Config.openBus | some c => cartRead c a
    let cartWritten : State := { s with cart := s.cart.map (fun c => cartWrite c a v) }
    (s.busRead a =
      if s.bootMapped = true ∧ a.toNat ≤ 0x00FF then Config.bootRom (BitVec.ofNat 8 a.toNat)
      else if a.toNat ≤ 0x7FFF then cartByte
      else if a.toNat ≤ 0x9FFF then s.mem.read a.toNat
      else if a.toNat ≤ 0xBFFF then cartByte
      else if a.toNat ≤ 0xDFFF then s.mem.read a.toNat
      else if a.toNat ≤ 0xFDFF then s.mem.read (a.toNat - 0x2000)
      else if a.toNat ≤ 0xFE9F then s.mem.read a.toNat
      else if a.toNat ≤ 0xFEFF then Config.unusableRead
      else if a.toNat ≤ 0xFFFE then s.mem.read a.toNat
      else s.ie)
    ∧ (s.busWrite a v =
      if a.toNat ≤ 0x7FFF then cartWritten
      else if a.toNat ≤ 0x9FFF then { s with mem := s.mem.write a.toNat v }
      else if a.toNat ≤ 0xBFFF then cartWritten
      else if a.toNat ≤ 0xDFFF then { s with mem := s.mem.write a.toNat v }
      else if a.toNat ≤ 0xFDFF then { s with mem := s.mem.write (a.toNat - 0x2000) v }
      else if a.toNat ≤ 0xFE9F then { s with mem := s.mem.write a.toNat v }
      else if a.toNat ≤ 0xFEFF then s
      else if a.toNat ≤ 0xFFFE then
        { s with mem := s.mem.write a.toNat v, bootMapped := s.bootMapped && !(a == 0xFF50#16 && v != 0#8) }
      else { s with ie := v })
    ∧ (s.irBlocked a = false → hostBusRead s a = .ok (s.busRead a) ∧ ∀ k, readByte s a k = k (s.busRead a))

/-- A read after a write: RAM, OAM, I/O, HRAM and IE give the byte back; WRAM and its echo are one storage
(R59); the unusable window and the absent cartridge discard it; no write changes the ROM image (R58). -/
def Obligations.ReadAfterWrite : Prop :=
  ∀ (s : State) (a : Addr) (v : Byte), s.mem.wf = true →
    (isRam a → (s.busWrite a v).busRead a = v)
    ∧ ((s.busWrite 0xFFFF#16 v).busRead 0xFFFF#16 = v)
    ∧ (0xC000 ≤ a.toNat → a.toNat ≤ 0xDDFF →
        (s.busWrite a v).busRead (a + 0x2000#16) = v ∧ (s.busWrite (a + 0x2000#16) v).busRead a = v
        ∧ s.busRead (a + 0x2000#16) = s.busRead a)
    ∧ (0xFEA0 ≤ a.toNat → a.toNat ≤ 0xFEFF → s.busWrite a v = s)
    ∧ (s.cart = none → a.toNat ≤ 0x7FFF ∨ inRamWindow a → s.busWrite a v = s)
    ∧ ((s.busWrite a v).cart.map (fun c => c.rom) = s.cart.map (fun c => c.rom))
    ∧ (∀ b : Addr, isRam a → b ≠ a → backing b ≠ backing a → (a ≠ 0xFF50#16 ∨ 0x00FF < b.toNat) →
        (s.busWrite a v).busRead b = s.busRead b)

/-! ## The cartridge -/

/-- R75: RomByte, with the power-of-two bank count; and the banks each controller shows (R79, R81, R84, R87,
R92, R95). -/
def Obligations.RomBanks : Prop :=
  (∀ (rom : RomImage), (∃ k, romBankCount rom = 2 ^ k) ∧ 2 ≤ romBankCount rom
    ∧ (rom.size + 0x3FFF) / 0x4000 ≤ romBankCount rom
    ∧ (∀ k, 2 ≤ 2 ^ k → (rom.size + 0x3FFF) / 0x4000 ≤ 2 ^ k → romBankCount rom ≤ 2 ^ k))
  ∧ (∀ (rom : RomImage) (bank : Nat) (a : Addr),
      let off := bank % romBankCount rom * 0x4000 + a.toNat % 0x4000
      romByte rom bank a = if off < rom.size then rom.bytes.readZ off else Config.openBus)
  ∧ (∀ (c : Cartridge) (a : Addr), a.toNat ≤ 0x3FFF →
      cartRead c a = romByte c.rom
        (match c.mbc with | .mbc1 r => if r.bmode = true then r.bank2.toNat * 32 else 0 | _ => 0) a)
  ∧ (∀ (c : Cartridge) (a : Addr), 0x4000 ≤ a.toNat → a.toNat ≤ 0x7FFF →
      cartRead c a = romByte c.rom
        (match c.mbc with
          | .fixed => 1
          | .mbc1 r => r.bank2.toNat * 32 + r.bank1.toNat
          | .mbc2 r => r.romb.toNat
          | .mbc3 r => r.romb.toNat
          | .mbc5 r => r.romb.toNat
          | .huc1 r => if r.romb.toNat = 0 ∧ Config.huc1ZeroBank = .alias1 then 1 else r.romb.toNat) a)

/-- The controller register writes at 0x0000-0x7FFF (R79, R80, R83, R86, R91, R94), a written bank 0
aliasing to 1 on MBC1, MBC2 and MBC3 (R78). -/
def Obligations.ControllerWrites : Prop :=
  ∀ (c : Cartridge) (a : Addr) (v : Byte), a.toNat ≤ 0x7FFF →
    let m := v.toNat
    cartWrite c a v = { c with mbc :=
      match c.mbc with
      | .fixed => .fixed
      | .mbc1 r => .mbc1
          (if a.toNat ≤ 0x1FFF then { r with ramg := m % 16 = 10 }
          else if a.toNat ≤ 0x3FFF then { r with bank1 := BitVec.ofNat 5 (if m % 32 = 0 then 1 else m % 32) }
          else if a.toNat ≤ 0x5FFF then { r with bank2 := BitVec.ofNat 2 (m % 4) }
          else { r with bmode := m % 2 = 1 })
      | .mbc2 r => .mbc2
          (if 0x3FFF < a.toNat then r
          else if a.toNat / 256 % 2 = 0 then { r with ramg := m % 16 = 10 }
          else { r with romb := BitVec.ofNat 4 (if m % 16 = 0 then 1 else m % 16) })
      | .mbc3 r => .mbc3
          (if a.toNat ≤ 0x1FFF then { r with ramg := m % 16 = 10 }
          else if a.toNat ≤ 0x3FFF then { r with romb := BitVec.ofNat 7 (if m % 128 = 0 then 1 else m % 128) }
          else if a.toNat ≤ 0x5FFF then { r with sel := v }
          else { r with
            latched := if c.features.rtc = true ∧ r.latchLast = some 0x00#8 ∧ v = 0x01#8 then r.live else r.latched
            latchLast := some v })
      | .mbc5 r => .mbc5
          (if a.toNat ≤ 0x1FFF then { r with ramg := m = 10 }
          else if a.toNat ≤ 0x2FFF then { r with romb := BitVec.ofNat 9 (r.romb.toNat / 256 * 256 + m) }
          else if a.toNat ≤ 0x3FFF then { r with romb := BitVec.ofNat 9 (m % 2 * 256 + r.romb.toNat % 256) }
          else if a.toNat ≤ 0x5FFF then { r with ramb := BitVec.ofNat 4 (if c.features.rumble = true then m % 8 else m % 16) }
          else r)
      | .huc1 r => .huc1
          (if a.toNat ≤ 0x1FFF then { r with irmode := m = 14, ramg := m % 16 = 10 }
          else if a.toNat ≤ 0x3FFF then { r with romb := BitVec.ofNat 6 (m % 64) }
          else if a.toNat ≤ 0x5FFF then { r with ramb := BitVec.ofNat 2 (m % 4) }
          else r) }

/-- Reads and writes of 0xA000-0xBFFF, by controller: RAM where enabled and present, MBC2's four-bit cells,
MBC3's clock registers (R74, R76, R79, R82, R85, R88, R93, R96). -/
def Obligations.CartridgeRam : Prop :=
  ∀ (c : Cartridge) (a : Addr) (v : Byte), inRamWindow a →
    (c.cramSize = match c.mbc with
      | .mbc2 _ => 512
      | _ => if c.features.ram = false then 0
        else match c.header.ramSizeCode.toNat with
          | 1 => 0x800 | 2 => 0x2000 | 3 => 0x8000 | 4 => 0x20000 | 5 => 0x10000 | _ => 0)
    ∧ (c.mbc = .fixed → cartRead c a = Config.openBus ∧ cartWrite c a v = c)
    ∧ (∀ r, c.mbc = .mbc1 r →
        cartRead c a = ramByte c (r.ramg = true) (if r.bmode = true then r.bank2.toNat else 0) a
        ∧ cartWrite c a v = ramWritten c (r.ramg = true) (if r.bmode = true then r.bank2.toNat else 0) a v)
    ∧ (∀ r, c.mbc = .mbc2 r →
        cartRead c a = (if r.ramg = true then
          (Config.openBus &&& 0xF0#8) ||| c.cram.readZ ((a.toNat - 0xA000) % 512) else Config.openBus)
        ∧ cartWrite c a v = (if r.ramg = true then
          { c with cram := c.cram.writeZ ((a.toNat - 0xA000) % 512) (v &&& 0x0F#8) } else c))
    ∧ (∀ r, c.mbc = .mbc3 r →
        cartRead c a =
          (if r.ramg = false then Config.openBus
          else if r.sel.toNat ≤ 3 then ramByte c True r.sel.toNat a
          else match (if c.features.rtc = true then rtcRegOfSel r.sel else none) with
            | some reg => rtcRead r.latched reg
            | none => Config.openBus)
        ∧ cartWrite c a v =
          (if r.ramg = false then c
          else if r.sel.toNat ≤ 3 then ramWritten c True r.sel.toNat a v
          else match (if c.features.rtc = true then rtcRegOfSel r.sel else none) with
            | some reg => { c with mbc := .mbc3 { r with live := rtcWrite r.live reg v } }
            | none => c))
    ∧ (∀ r, c.mbc = .mbc5 r → cartRead c a = ramByte c (r.ramg = true) r.ramb.toNat a
        ∧ cartWrite c a v = ramWritten c (r.ramg = true) r.ramb.toNat a v)
    ∧ (∀ r, c.mbc = .huc1 r → cartRead c a = ramByte c (r.ramg = true) r.ramb.toNat a
        ∧ cartWrite c a v = ramWritten c (r.ramg = true) r.ramb.toNat a v)

/-- R89: the registers SEL selects and their masks; a register written and read gives the byte under its
mask and leaves the others alone. R90: `rtc_tick` advances the live set by one second where it is not
halted. -/
def Obligations.RealTimeClock : Prop :=
  (rtcRegOfSel 0x08#8 = some .s ∧ rtcRegOfSel 0x09#8 = some .m ∧ rtcRegOfSel 0x0A#8 = some .h
    ∧ rtcRegOfSel 0x0B#8 = some .dl ∧ rtcRegOfSel 0x0C#8 = some .dh
    ∧ ∀ sel : Byte, sel.toNat < 8 ∨ 12 < sel.toNat → rtcRegOfSel sel = none)
  ∧ (∀ (t : RtcSet) (v : Byte),
      rtcRead (rtcWrite t .s v) .s = v &&& 0x3F#8 ∧ rtcRead (rtcWrite t .m v) .m = v &&& 0x3F#8
      ∧ rtcRead (rtcWrite t .h v) .h = v &&& 0x1F#8 ∧ rtcRead (rtcWrite t .dl v) .dl = v &&& 0xFF#8
      ∧ rtcRead (rtcWrite t .dh v) .dh = v &&& 0xC1#8)
  ∧ (∀ (t : RtcSet) (v : Byte) (r r' : RtcReg), r' ≠ r → rtcRead (rtcWrite t r v) r' = rtcRead t r')
  ∧ (∀ t : RtcSet, rtcRead t .dh &&& 0x3E#8 = 0#8
      ∧ (rtcRead t .dh).toNat = carryNat t.dayHigh + 64 * carryNat t.halt + 128 * carryNat t.dayCarry)
  ∧ (∀ t : RtcSet, (t.halt = true → rtcAdvance t = t) ∧ (t.halt = false → rtcAdvance t = nextSecond t))
  ∧ (∀ (s : State) (c : Cartridge) (r : Mbc3), s.cart = some c → c.mbc = .mbc3 r → c.features.rtc = true →
      hostRtcTick s = { s with cart := some { c with mbc := .mbc3 { r with live := rtcAdvance r.live } } })
  ∧ (∀ s : State, (∀ c r, s.cart = some c → c.mbc = .mbc3 r → c.features.rtc = false) → hostRtcTick s = s)

/-- R70: the length check. R72: the table of type bytes, and R73: every other is unsupported. R71: the
header. R49: the registers of the parsed cartridge, and its CRAM, each byte of the image handed over that it has
room for, in MBC2's cells the low four bits (R85); the load changes nothing but CART (R252). It is the model's
choice (DESIGN CHOICE) that an image longer than CRAM is cut to it (log 25), that the load takes the two clock
register sets as arguments (log 15), and that the header keeps the global checksum as two bytes (log 24). -/
def Obligations.LoadCartridge : Prop :=
  ∀ (init : CartInit) (rom : RomImage) (s : State),
    (rom.size < 0x150 → loadImage init rom s = .error (.invalidHeaderLength rom.size))
    ∧ (0x150 ≤ rom.size → (∀ row ∈ typeTable, row.1 ≠ rom.bytes.readZ 0x147) →
        loadImage init rom s = .error (.unsupportedCartridgeType (rom.bytes.readZ 0x147)))
    ∧ (∀ row ∈ typeTable, 0x150 ≤ rom.size → rom.bytes.readZ 0x147 = row.1 →
        ∃ c, loadImage init rom s = .ok { s with cart := some c } ∧ c.rom = rom ∧ c.features = row.2.2
          ∧ c.header = { typeByte := rom.bytes.readZ 0x147, romSizeCode := rom.bytes.readZ 0x148,
                         ramSizeCode := rom.bytes.readZ 0x149, destinationCode := rom.bytes.readZ 0x14A,
                         headerChecksum := rom.bytes.readZ 0x14D, globalChecksum0 := rom.bytes.readZ 0x14E,
                         globalChecksum1 := rom.bytes.readZ 0x14F }
          ∧ (∀ k b, k < c.cramSize → init.cram[k]? = some b → c.cram.readZ k = cramCellOf c.mbc b)
          ∧ c.mbc = match row.2.1 with
            | .fixed => .fixed
            | .mbc1 => .mbc1 { ramg := false, bank1 := 1#5, bank2 := 0#2, bmode := false }
            | .mbc2 => .mbc2 { ramg := false, romb := 1#4 }
            | .mbc3 => .mbc3 { ramg := false, romb := 1#7, sel := 0#8, latchLast := none, live := init.live,
                               latched := init.latched }
            | .mbc5 => .mbc5 { ramg := false, romb := 1#9, ramb := 0#4 }
            | .huc1 => .huc1 { ramg := false, irmode := false, romb := 1#6, ramb := 0#2 })

/-! ## Reset and the host -/

/-- R45, R46, R47: the registers and the control state after reset, without and with a boot ROM. -/
def Obligations.ResetRegisters : Prop :=
  ∀ (boot : Bool) (init : InitMem) (s : State),
    let t := hostReset boot init s
    (boot = false → t.a = 0x01#8 ∧ t.f = 0xB0#8 ∧ t.b = 0x00#8 ∧ t.c = 0x13#8 ∧ t.d = 0x00#8 ∧ t.e = 0xD8#8
      ∧ t.h = 0x01#8 ∧ t.l = 0x4D#8 ∧ t.sp = 0xFFFE#16 ∧ t.pc = 0x0100#16)
    ∧ (boot = true → t.a = 0#8 ∧ t.f = 0#8 ∧ t.b = 0#8 ∧ t.c = 0#8 ∧ t.d = 0#8 ∧ t.e = 0#8 ∧ t.h = 0#8 ∧ t.l = 0#8
      ∧ t.sp = 0#16 ∧ t.pc = 0#16)
    ∧ t.ime = false ∧ t.imePending = false ∧ t.mode = .running ∧ t.fault = none ∧ t.cycles = 0 ∧ t.bootMapped = boot

/-- The storage after reset: IE 0x00, and VRAM, WRAM, OAM, IO and HRAM as the images handed over (R48); a
cartridge kept (R255) with its controller and its CRAM at R49; and IF 0xE1 by the default table (R68). What a
byte that no image gives reads as, and the cut of an image longer than its region, is the model's choice (log 3,
4, 25), and so is that the reset takes the two clock register sets as arguments (log 15). `State.reset` is the
reset without a boot ROM, without a cartridge and with nothing handed over, which is the model's choice (log 1,
2, 3, 4). -/
def Obligations.ResetStorage : Prop :=
  (∀ (boot : Bool) (init : InitMem) (s : State),
    let t := hostReset boot init s
    t.ie = 0x00#8
    ∧ (∀ key, t.mem.read key = (imageByte init key).getD (Memory.unlisted key))
    ∧ t.cart = s.cart.map (fun c => cartReset init.cart c)
    ∧ (∀ c : Cartridge, (cartReset init.cart c).rom = c.rom ∧ (cartReset init.cart c).header = c.header
        ∧ (cartReset init.cart c).features = c.features ∧ (cartReset init.cart c).mbc = mbcReset init.cart c.mbc.kind
        ∧ ∀ k, (cartReset init.cart c).cram.readZ k
            = if k < c.cramSize then cramCellOf c.mbc ((init.cart.cram[k]?).getD 0x00#8) else 0x00#8))
  ∧ State.reset = hostReset false InitMem.none State.reset
  ∧ State.reset.busRead 0xFF0F#16 = 0xE1#8 ∧ State.reset.busRead 0xFF40#16 = 0x91#8 ∧ State.reset.busRead 0xFF26#16 = 0xF1#8

/-- R253: each write action touches the one byte it names and may not touch others; `wake_stop` wakes only a
Stopped core; unloading leaves everything but CART (R252). That an action the host may not take answers no state
(the two clauses `= none`) is the model's choice (log 16, DESIGN CHOICE): R253 only forbids it. -/
def Obligations.HostActions : Prop :=
  ∀ (s : State) (a : Addr) (v : Byte),
    (0xFF00 ≤ a.toNat → a.toNat ≤ 0xFF7F → a ≠ 0xFF50#16 →
      (HostAction.writeIo a v).apply s = some { s with mem := s.mem.write a.toNat v })
    ∧ (a.toNat < 0xFF00 ∨ 0xFF7F < a.toNat ∨ a = 0xFF50#16 → (HostAction.writeIo a v).apply s = none)
    ∧ ((0x8000 ≤ a.toNat ∧ a.toNat ≤ 0x9FFF) ∨ (0xFE00 ≤ a.toNat ∧ a.toNat ≤ 0xFE9F) →
      (HostAction.writeVideo a v).apply s = some { s with mem := s.mem.write a.toNat v })
    ∧ (¬ ((0x8000 ≤ a.toNat ∧ a.toNat ≤ 0x9FFF) ∨ (0xFE00 ≤ a.toNat ∧ a.toNat ≤ 0xFE9F)) →
      (HostAction.writeVideo a v).apply s = none)
    ∧ (HostAction.wakeStop.apply s = some (if s.mode = .stopped then { s with mode := .running } else s))
    ∧ (HostAction.unloadCartridge.apply s = some { s with cart := none })
end

