-- ==== Sys2Proof/Laws/Bits.lean ====
section
/-! SUPPORT. The laws of pack and split (R13), of the four flags in F (R26, R27), and the case split of a byte. -/

namespace Sys2Proof

/-- The bits of a packed word (R13). -/
theorem pack_getLsbD (lo hi : Byte) (i : Nat) :
    (pack lo hi).getLsbD i = if i < 8 then lo.getLsbD i else hi.getLsbD (i - 8) :=
  BitVec.getLsbD_append

/-- A packed word as a number (R13). -/
theorem pack_toNat (lo hi : Byte) : (pack lo hi).toNat = lo.toNat + 256 * hi.toNat := by
  have h := lo.isLt
  have h1 : (pack lo hi).toNat = hi.toNat <<< 8 ||| lo.toNat := BitVec.toNat_append hi lo
  rw [h1, ← Nat.shiftLeft_add_eq_or_of_lt h, Nat.shiftLeft_eq]
  omega

/-- The low byte of a packed word (R13). -/
@[simp] theorem lowByte_pack (lo hi : Byte) : lowByte (pack lo hi) = lo := by
  apply BitVec.eq_of_getLsbD_eq
  intro i hi'
  simp [lowByte, pack_getLsbD, hi']

/-- The high byte of a packed word (R13). -/
@[simp] theorem highByte_pack (lo hi : Byte) : highByte (pack lo hi) = hi := by
  apply BitVec.eq_of_getLsbD_eq
  intro i hi'
  simp [highByte, pack_getLsbD, hi']

/-- Splitting a word and packing its bytes gives the word back (R13). -/
@[simp] theorem pack_split (w : Addr) : pack (lowByte w) (highByte w) = w := by
  apply BitVec.eq_of_getLsbD_eq
  intro i hi'
  rw [pack_getLsbD]
  split
  · rename_i h; simp [lowByte, h]
  · have h2 : i - 8 < 8 := by omega
    have h3 : 8 + (i - 8) = i := by omega
    simp [highByte, h2, h3]

/-- What holds of each of the 256 numerals holds of every byte. -/
theorem forall_byte {p : Byte → Prop} (h : ∀ k, k < 256 → p (BitVec.ofNat 8 k)) (b : Byte) : p b := by
  have := h b.toNat b.isLt
  simpa using this

namespace Machine

/-- The flags a packed F holds (R26). -/
@[simp] theorem bitOf_packFlags_z (z n h c : Bool) : bitOf (packFlags z n h c) 7 = z := by
  revert z n h c; decide
@[simp] theorem bitOf_packFlags_n (z n h c : Bool) : bitOf (packFlags z n h c) 6 = n := by
  revert z n h c; decide
@[simp] theorem bitOf_packFlags_h (z n h c : Bool) : bitOf (packFlags z n h c) 5 = h := by
  revert z n h c; decide
@[simp] theorem bitOf_packFlags_c (z n h c : Bool) : bitOf (packFlags z n h c) 4 = c := by
  revert z n h c; decide

/-- A packed F keeps its low nibble zero (R27). -/
@[simp] theorem packFlags_low (z n h c : Bool) : packFlags z n h c &&& 0x0F#8 = 0#8 := by
  revert z n h c; decide

/-- A byte masked as F is has a zero low nibble (R27). -/
@[simp] theorem maskF_low (v : Byte) : v &&& 0xF0#8 &&& 0x0F#8 = 0#8 := by
  rw [BitVec.and_assoc]; simp

end Machine

end Sys2Proof
end

