-- ==== Sys2Proof/Laws/Cells.lean ====
section
/-! SUPPORT. The laws of storage cells: a read after a write, the canonical form, and the keys. -/

namespace Sys2Proof.Machine

/-- A write leaves every other key's byte alone. -/
theorem readCells_writeCells_ne (d : Nat → Byte) (cells : Cells) {k k' : Nat} (v : Byte)
    (h : k' ≠ k) : readCells d (writeCells d cells k v) k' = readCells d cells k' := by
  induction cells with
  | nil => simp only [writeCells]; split <;> simp [readCells, h]
  | cons cell rest ih =>
    obtain ⟨k0, v0⟩ := cell
    simp only [writeCells]
    split
    · split <;> simp [readCells, h]
    · split
      · rename_i hk; subst hk; split <;> simp [readCells, h]
      · simp only [readCells, ih]

/-- Below the first key of a canonical list nothing is listed. -/
theorem readCells_of_above (d : Nat → Byte) (cells : Cells) (k : Nat) (hw : cellsWf d cells = true)
    (h : aboveHead k cells = true) : readCells d cells k = d k := by
  induction cells with
  | nil => rfl
  | cons cell rest ih =>
    obtain ⟨k0, v0⟩ := cell
    simp only [cellsWf, aboveHead, Bool.and_eq_true, decide_eq_true_eq] at hw h
    have hne : k ≠ k0 := by omega
    simp only [readCells, hne, if_false]
    refine ih hw.2 ?_
    cases rest with
    | nil => rfl
    | cons c1 r1 =>
      have := hw.1.2
      simp only [aboveHead, decide_eq_true_eq] at this ⊢
      omega

/-- A read after a write of the same key gives the value written, on a canonical list. -/
theorem readCells_writeCells_self (d : Nat → Byte) (cells : Cells) (k : Nat) (v : Byte)
    (hw : cellsWf d cells = true) : readCells d (writeCells d cells k v) k = v := by
  induction cells with
  | nil => simp only [writeCells]; split <;> simp_all [readCells]
  | cons cell rest ih =>
    obtain ⟨k0, v0⟩ := cell
    have hw' := hw
    simp only [cellsWf, Bool.and_eq_true, decide_eq_true_eq] at hw
    simp only [writeCells]
    split
    · rename_i hlt
      split
      · rename_i hv
        rw [readCells_of_above d _ k hw' (by simpa [aboveHead] using hlt), hv]
      · simp [readCells]
    · split
      · rename_i hk
        subst hk
        split
        · rename_i hv
          rw [readCells_of_above d _ k hw.2 hw.1.2, hv]
        · simp [readCells]
      · rename_i hne
        simp [readCells, hne, ih hw.2]

/-- A write keeps every key above a bound that lies below the written key. -/
theorem aboveHead_writeCells (d : Nat → Byte) (cells : Cells) {j k : Nat} (v : Byte)
    (hw : cellsWf d cells = true) (h : aboveHead j cells = true) (hk : j < k) :
    aboveHead j (writeCells d cells k v) = true := by
  cases cells with
  | nil => simp only [writeCells]; split <;> simp [aboveHead, hk]
  | cons cell rest =>
    obtain ⟨k0, v0⟩ := cell
    simp only [cellsWf, aboveHead, Bool.and_eq_true, decide_eq_true_eq] at hw h
    simp only [writeCells]
    split
    · split <;> simp [aboveHead, hk, h]
    · split
      · split
        · cases rest with
          | nil => rfl
          | cons c1 r1 =>
            have := hw.1.2
            simp only [aboveHead, decide_eq_true_eq] at this ⊢
            omega
        · simp [aboveHead, hk]
      · simp [aboveHead, h]

/-- A write keeps the canonical form. -/
theorem cellsWf_writeCells (d : Nat → Byte) (cells : Cells) (k : Nat) (v : Byte)
    (hw : cellsWf d cells = true) : cellsWf d (writeCells d cells k v) = true := by
  induction cells with
  | nil => simp only [writeCells]; split <;> simp_all [cellsWf, aboveHead]
  | cons cell rest ih =>
    obtain ⟨k0, v0⟩ := cell
    have hw' := hw
    simp only [cellsWf, Bool.and_eq_true, decide_eq_true_eq] at hw
    simp only [writeCells]
    split
    · split
      · exact hw'
      · simp_all [cellsWf, aboveHead]
    · split
      · split
        · exact hw.2
        · simp_all [cellsWf]
      · simp only [cellsWf, Bool.and_eq_true, decide_eq_true_eq]
        exact ⟨⟨hw.1.1, aboveHead_writeCells d rest v hw.2 hw.1.2 (by omega)⟩, ih hw.2⟩

/-- A write lists no cell but the one written and the ones listed before. -/
theorem all_writeCells (d : Nat → Byte) (p : Host.Cell → Bool) (cells : Cells) (k : Nat) (v : Byte)
    (h : cells.all p = true) (hk : p (k, v) = true) : (writeCells d cells k v).all p = true := by
  induction cells with
  | nil => simp only [writeCells]; split <;> simp [hk]
  | cons cell rest ih =>
    obtain ⟨k0, v0⟩ := cell
    simp only [List.all_cons, Bool.and_eq_true] at h
    simp only [writeCells]
    split
    · split <;> simp_all
    · split
      · split <;> simp_all
      · simp_all

/-- Writing bytes in a row keeps the canonical form. -/
theorem cellsWf_writeBytes (d : Nat → Byte) (bytes : List Byte) (cells : Cells) (k : Nat)
    (hw : cellsWf d cells = true) : cellsWf d (writeBytes d cells k bytes) = true := by
  induction bytes generalizing cells k with
  | nil => exact hw
  | cons v rest ih => exact ih _ _ (cellsWf_writeCells d cells k v hw)

/-- Writing bytes in a row lists no cells but those written and the ones listed before. -/
theorem all_writeBytes (d : Nat → Byte) (p : Host.Cell → Bool) (bytes : List Byte) (cells : Cells)
    (k : Nat) (h : cells.all p = true)
    (hp : ∀ j v, k ≤ j → j < k + bytes.length → v ∈ bytes → p (j, v) = true) :
    (writeBytes d cells k bytes).all p = true := by
  induction bytes generalizing cells k with
  | nil => exact h
  | cons v rest ih =>
    refine ih _ _ (all_writeCells d p cells k v h (hp k v (by omega) (by simp) (by simp))) ?_
    intro j w h1 h2 hw
    exact hp j w (by omega) (by simp only [List.length_cons]; omega) (by simp [hw])

/-- A read after writing bytes in a row: the byte written there, else what was there before. -/
theorem readCells_writeBytes (d : Nat → Byte) (bytes : List Byte) (cells : Cells) (base k : Nat)
    (hw : cellsWf d cells = true) :
    readCells d (writeBytes d cells base bytes) k
      = if k < base then readCells d cells k else (bytes[k - base]?).getD (readCells d cells k) := by
  induction bytes generalizing cells base with
  | nil => simp [writeBytes]
  | cons v rest ih =>
    rw [writeBytes, ih _ _ (cellsWf_writeCells d cells base v hw)]
    rcases Nat.lt_trichotomy k base with hk | rfl | hk
    · rw [if_pos (by omega), if_pos hk, readCells_writeCells_ne d cells v (by omega)]
    · simp [readCells_writeCells_self d cells _ v hw]
    · obtain ⟨j, rfl⟩ : ∃ j, k = base + 1 + j := ⟨k - base - 1, by omega⟩
      rw [if_neg (by omega), if_neg (by omega), readCells_writeCells_ne d cells v (by omega)]
      have e1 : base + 1 + j - (base + 1) = j := by omega
      have e2 : base + 1 + j - base = j + 1 := by omega
      rw [e1, e2, List.getElem?_cons_succ]

/-- Two canonical lists that read the same everywhere are equal: equal memories are equal data. -/
theorem cells_ext (d : Nat → Byte) (xs ys : Cells) (hx : cellsWf d xs = true)
    (hy : cellsWf d ys = true) (h : ∀ k, readCells d xs k = readCells d ys k) : xs = ys := by
  have head_ne : ∀ (k : Nat) (v : Byte) (r zs : Cells), cellsWf d ((k, v) :: r) = true →
      cellsWf d zs = true → aboveHead k zs = true →
      readCells d ((k, v) :: r) k ≠ readCells d zs k := by
    intro k v r zs hw hz ha
    rw [readCells_of_above d zs k hz ha]
    simp only [cellsWf, Bool.and_eq_true, decide_eq_true_eq] at hw
    simpa [readCells] using hw.1.1
  induction xs generalizing ys with
  | nil =>
    cases ys with
    | nil => rfl
    | cons c r => exact absurd (h c.1).symm (head_ne c.1 c.2 r [] hy hx rfl)
  | cons c r ih =>
    obtain ⟨k, v⟩ := c
    cases ys with
    | nil => exact absurd (h k) (head_ne k v r [] hx hy rfl)
    | cons c' r' =>
      obtain ⟨k', v'⟩ := c'
      rcases Nat.lt_trichotomy k k' with hlt | heq | hgt
      · exact absurd (h k) (head_ne k v r _ hx hy (by simpa [aboveHead] using hlt))
      · subst heq
        have hv : v = v' := by simpa [readCells] using h k
        subst hv
        have hx' := hx
        have hy' := hy
        simp only [cellsWf, Bool.and_eq_true, decide_eq_true_eq] at hx' hy'
        rw [ih r' hx'.2 hy'.2]
        intro j
        by_cases hj : j = k
        · subst hj
          rw [readCells_of_above d r j hx'.2 hx'.1.2, readCells_of_above d r' j hy'.2 hy'.1.2]
        · have := h j
          simpa [readCells, hj] using this
      · exact absurd (h k').symm (head_ne k' v' r' _ hy hx (by simpa [aboveHead] using hgt))

/-! ## The bus storage and cartridge storage -/

/-- A write of the bus storage keeps its canonical form. -/
theorem Memory.wf_write {m : Memory} (k : Nat) (v : Byte) (h : m.wf = true) :
    (m.write k v).wf = true := cellsWf_writeCells _ m k v h

/-- A read after a write of the bus storage. -/
theorem Memory.read_write_self {m : Memory} (k : Nat) (v : Byte) (h : m.wf = true) :
    (m.write k v).read k = v := readCells_writeCells_self _ m k v h

/-- A write of the bus storage leaves every other byte alone. -/
theorem Memory.read_write_ne (m : Memory) {k k' : Nat} (v : Byte) (h : k' ≠ k) :
    (m.write k v).read k' = m.read k' := readCells_writeCells_ne _ m v h

/-- A write at a key that exists keeps the listed keys existing. -/
theorem keysStored_write {m : Memory} {k : Nat} (v : Byte) (h : keysStored m = true)
    (hk : Memory.isKey k = true) : keysStored (m.write k v) = true :=
  all_writeCells _ _ m k v h hk

/-- Nothing listed is canonical. -/
theorem Memory.wf_nil : Memory.wf [] = true := rfl

end Sys2Proof.Machine
end

