-- ==== Sys2Proof/Laws/Cart.lean ====
section
/-! SUPPORT. The laws of the cartridge: what a write leaves alone, and that every operation keeps the
invariant `cartWf`. -/

namespace Sys2Proof.Machine

/-! ## What a write leaves alone (R36) -/

theorem kind_mbcWrite (features : Features) (m : Mbc) (a : Addr) (v : Byte) :
    (mbcWrite features m a v).kind = m.kind := by cases m <;> rfl

/-- The size of cartridge RAM depends on the kind, the features and the header alone (R74). -/
theorem cramSize_congr {c d : Cartridge} (hk : d.mbc.kind = c.mbc.kind) (hf : d.features = c.features)
    (hh : d.header = c.header) : d.cramSize = c.cramSize := by
  unfold Cartridge.cramSize
  rw [hf, hh]
  cases hd : d.mbc <;> cases hc : c.mbc <;> simp_all [Mbc.kind]

/-- The selected clock is the cartridge's own MBC3. -/
theorem rtcSelected_mbc {c : Cartridge} {r : Mbc3} {reg : RtcReg} (h : c.rtcSelected = some (r, reg)) :
    c.mbc = .mbc3 r := by
  simp only [Cartridge.rtcSelected] at h
  split at h
  · split at h
    · simp only [Option.map_eq_some_iff, Prod.mk.injEq] at h
      obtain ⟨_, _, rfl, _⟩ := h
      assumption
    · simp at h
  · simp at h

/-- Everything a write of the RAM window can do: a RAM cell, a clock register, or nothing. -/
theorem cartRamWrite_cases (c : Cartridge) (a : Addr) (v : Byte) :
    (∃ off, c.cramOffset a = some off
      ∧ cartRamWrite c a v = { c with cram := c.cram.writeZ off (c.cramStored v) })
    ∨ (∃ r t, c.mbc = .mbc3 r ∧ cartRamWrite c a v = { c with mbc := .mbc3 { r with live := t } })
    ∨ cartRamWrite c a v = c := by
  unfold cartRamWrite
  split
  · rename_i off h; exact .inl ⟨off, h, rfl⟩
  · split
    · rename_i r reg h; exact .inr (.inl ⟨r, _, rtcSelected_mbc h, rfl⟩)
    · exact .inr (.inr rfl)

/-- A cartridge write keeps the image, the header, the features and the kind. -/
theorem identity_cartWrite (c : Cartridge) (a : Addr) (v : Byte) :
    (cartWrite c a v).rom = c.rom ∧ (cartWrite c a v).header = c.header
      ∧ (cartWrite c a v).features = c.features ∧ (cartWrite c a v).mbc.kind = c.mbc.kind := by
  unfold cartWrite
  split
  · exact ⟨rfl, rfl, rfl, kind_mbcWrite _ _ _ _⟩
  · obtain ⟨off, _, h⟩ | ⟨r, t, hm, h⟩ | h := cartRamWrite_cases c a v
    · rw [h]; exact ⟨rfl, rfl, rfl, rfl⟩
    · rw [h]; exact ⟨rfl, rfl, rfl, by rw [hm]; rfl⟩
    · rw [h]; exact ⟨rfl, rfl, rfl, rfl⟩

/-! ## The invariant -/

theorem ramOff_lt {c : Cartridge} (bank : Nat) (a : Addr) (h : 0 < c.cramSize) :
    ramOff c bank a < c.cramSize := Nat.mod_lt _ h

/-- A CRAM offset the window shows is within CRAM_SIZE (R76, R85). -/
theorem cramOffset_lt {c : Cartridge} {a : Addr} {off : Nat} (h : c.cramOffset a = some off) :
    off < c.cramSize := by
  unfold Cartridge.cramOffset at h
  split at h
  · simp at h
  · split at h
    · rename_i hr; simp only [Option.some.injEq] at h; subst h; exact ramOff_lt _ _ hr.2
    · simp at h
  · rename_i r hm
    split at h
    · simp only [Option.some.injEq] at h; subst h
      have : c.cramSize = 512 := by simp only [Cartridge.cramSize, hm]
      rw [this, show (0x1FF : Nat) = 2 ^ 9 - 1 from rfl, Nat.and_two_pow_sub_one_eq_mod]
      exact Nat.mod_lt _ (by decide)
    · simp at h
  · split at h
    · rename_i hr; simp only [Option.some.injEq] at h; subst h; exact ramOff_lt _ _ hr.2.2
    · simp at h
  · split at h
    · rename_i hr; simp only [Option.some.injEq] at h; subst h; exact ramOff_lt _ _ hr.2
    · simp at h
  · split at h
    · rename_i hr; simp only [Option.some.injEq] at h; subst h; exact ramOff_lt _ _ hr.2
    · simp at h

/-- The parts of `cartWf`. -/
theorem cartWf_iff (c : Cartridge) : cartWf c = true ↔
    0x150 ≤ c.rom.size ∧ c.rom.bytes.wfZ = true ∧ keysBelow c.rom.size c.rom.bytes = true
      ∧ c.header = readHeader c.rom ∧ cartType c.header.typeByte = some (c.mbc.kind, c.features)
      ∧ c.cram.wfZ = true ∧ keysBelow c.cramSize c.cram = true ∧ mbcWf c.mbc = true
      ∧ cellsNibbles c = true := by
  simp only [cartWf, Bool.and_eq_true, decide_eq_true_eq, and_assoc]

theorem setWidth_ne_of_if {n : Nat} (v one : BitVec n) (h : one ≠ 0) :
    (if v = 0 then one else v) ≠ 0 := by
  split
  · exact h
  · assumption

/-- A controller write keeps the bank registers that never hold 0 off 0 (R78). -/
theorem mbcWf_mbcWrite (features : Features) (m : Mbc) (a : Addr) (v : Byte) (h : mbcWf m = true) :
    mbcWf (mbcWrite features m a v) = true := by
  cases m with
  | fixed => rfl
  | mbc1 r =>
    simp only [mbcWf, bne_iff_ne, mbcWrite, mbc1Write] at h ⊢
    split
    · exact h
    · split
      · exact setWidth_ne_of_if _ _ (by decide)
      · split
        · exact h
        · exact h
  | mbc2 r =>
    simp only [mbcWf, bne_iff_ne, mbcWrite, mbc2Write] at h ⊢
    split
    · split
      · exact setWidth_ne_of_if _ _ (by decide)
      · exact h
    · exact h
  | mbc3 r =>
    simp only [mbcWf, bne_iff_ne, mbcWrite, mbc3Write] at h ⊢
    split
    · exact h
    · split
      · exact setWidth_ne_of_if _ _ (by decide)
      · split
        · exact h
        · exact h
  | mbc5 r => rfl
  | huc1 r => rfl

/-- A stored byte on MBC2 is a nibble (R85). -/
theorem cellsNibbles_write {c : Cartridge} (off : Nat) (v : Byte) (h : cellsNibbles c = true) :
    cellsNibbles { c with cram := c.cram.writeZ off (c.cramStored v) } = true := by
  cases hm : c.mbc with
  | mbc2 r =>
    simp only [cellsNibbles, hm, Cartridge.cramStored] at h ⊢
    refine all_writeCells _ _ _ _ _ h ?_
    simp only [beq_iff_eq]
    rw [BitVec.and_assoc]; simp
  | _ => simp only [cellsNibbles]

/-- Every cartridge write keeps the invariant. -/
theorem cartWf_cartWrite {c : Cartridge} (a : Addr) (v : Byte) (h : cartWf c = true) :
    cartWf (cartWrite c a v) = true := by
  rw [cartWf_iff] at h ⊢
  obtain ⟨h1, h2, h3, h4, h5, h6, h7, h8, h9⟩ := h
  obtain ⟨i1, i2, i3, i4⟩ := identity_cartWrite c a v
  rw [i1, i2, i3, i4, cramSize_congr i4 i3 i2]
  refine ⟨h1, h2, h3, h4, h5, ?_⟩
  unfold cartWrite
  split
  · refine ⟨h6, h7, mbcWf_mbcWrite _ _ _ _ h8, ?_⟩
    cases hm : c.mbc with
    | mbc2 r => simp only [cellsNibbles, hm, mbcWrite] at h9 ⊢; exact h9
    | _ => simp only [cellsNibbles, mbcWrite]
  · obtain ⟨off, ho, h⟩ | ⟨r, t, hm, h⟩ | h := cartRamWrite_cases c a v
    · rw [h]
      refine ⟨cellsWf_writeCells _ _ _ _ h6, ?_, h8, cellsNibbles_write off v h9⟩
      refine all_writeCells _ _ _ _ _ h7 ?_
      simpa using cramOffset_lt ho
    · rw [h]
      refine ⟨h6, h7, by rw [hm] at h8; exact h8, rfl⟩
    · rw [h]; exact ⟨h6, h7, h8, h9⟩

/-- `rtc_tick` keeps the invariant (R90). -/
theorem cartWf_cartRtcTick {c : Cartridge} (h : cartWf c = true) : cartWf (cartRtcTick c) = true := by
  unfold cartRtcTick
  split
  · rename_i r hm
    split
    · rw [cartWf_iff] at h ⊢
      obtain ⟨h1, h2, h3, h4, h5, h6, h7, h8, h9⟩ := h
      have hk : ∀ t, (Mbc.mbc3 { r with live := t }).kind = c.mbc.kind := by intro t; rw [hm]; rfl
      refine ⟨h1, h2, h3, h4, by rw [h5, hk], h6, ?_, by rw [hm] at h8; exact h8, rfl⟩
      have e : Cartridge.cramSize { c with mbc := .mbc3 { r with live := rtcAdvance r.live } } = c.cramSize :=
        cramSize_congr (hk _) rfl rfl
      rw [e]; exact h7
    · exact h
  · exact h

/-- The controller of a kind at reset is of that kind. -/
@[simp] theorem kind_mbcReset (init : CartInit) (kind : ControllerKind) :
    (mbcReset init kind).kind = kind := by cases kind <;> rfl

theorem mbcWf_mbcReset (init : CartInit) (kind : ControllerKind) : mbcWf (mbcReset init kind) = true := by
  cases kind <;> rfl

/-- A cartridge's reset keeps everything but the controller and RAM (R49, R255). -/
theorem identity_cartReset (init : CartInit) (c : Cartridge) :
    (cartReset init c).rom = c.rom ∧ (cartReset init c).header = c.header
      ∧ (cartReset init c).features = c.features ∧ (cartReset init c).mbc = mbcReset init c.mbc.kind :=
  ⟨rfl, rfl, rfl, rfl⟩

/-- A cartridge's reset makes its runtime state well formed, whatever it was. -/
theorem cartWf_cartReset (init : CartInit) {c : Cartridge} (h1 : 0x150 ≤ c.rom.size)
    (h2 : c.rom.bytes.wfZ = true) (h3 : keysBelow c.rom.size c.rom.bytes = true)
    (h4 : c.header = readHeader c.rom)
    (h5 : cartType c.header.typeByte = some (c.mbc.kind, c.features)) : cartWf (cartReset init c) = true := by
  rw [cartWf_iff]
  have hk : (cartReset init c).mbc.kind = c.mbc.kind := by simp [cartReset]
  refine ⟨h1, h2, h3, h4, by rw [hk]; exact h5, ?_, ?_, mbcWf_mbcReset _ _, ?_⟩
  · exact cellsWf_writeBytes _ _ _ _ rfl
  · refine all_writeBytes _ _ _ _ _ rfl ?_
    intro j v _ hj _
    simp only [List.length_map, List.length_take] at hj
    have hs : (cartReset init c).cramSize
        = Cartridge.cramSize { c with mbc := mbcReset init c.mbc.kind } := cramSize_congr rfl rfl rfl
    simp only [decide_eq_true_eq]
    omega
  · unfold cellsNibbles
    split
    · rename_i r hm
      have hm' : mbcReset init c.mbc.kind = .mbc2 r := hm
      refine all_writeBytes _ _ _ _ _ rfl ?_
      intro j v _ _ hv
      simp only [List.mem_map] at hv
      obtain ⟨w, _, rfl⟩ := hv
      simp only [Cartridge.cramStored, hm', beq_iff_eq]
      rw [BitVec.and_assoc]; simp
    · rfl

/-! ## Images -/

theorem aboveHead_imageCells (bytes : List Byte) {j k : Nat} (h : j < k) :
    aboveHead j (imageCells k bytes) = true := by
  induction bytes generalizing k with
  | nil => rfl
  | cons v rest ih =>
    simp only [imageCells]
    split
    · exact ih (by omega)
    · simpa [aboveHead] using h

/-- The cells of an image are canonical. -/
theorem wfZ_imageCells (bytes : List Byte) (k : Nat) : (imageCells k bytes).wfZ = true := by
  induction bytes generalizing k with
  | nil => rfl
  | cons v rest ih =>
    simp only [imageCells]
    split
    · exact ih _
    · rename_i hv
      simp only [Cells.wfZ, cellsWf, zeroByte, Bool.and_eq_true]
      exact ⟨⟨decide_eq_true hv, aboveHead_imageCells rest (by omega)⟩, ih _⟩

/-- The keys of an image are below its length. -/
theorem keysBelow_imageCells (bytes : List Byte) (k n : Nat) (h : k + bytes.length ≤ n) :
    keysBelow n (imageCells k bytes) = true := by
  induction bytes generalizing k with
  | nil => rfl
  | cons v rest ih =>
    simp only [List.length_cons] at h
    simp only [imageCells]
    split
    · exact ih _ (by omega)
    · simp only [keysBelow, List.all_cons, Bool.and_eq_true, decide_eq_true_eq]
      exact ⟨by omega, ih _ (by omega)⟩

/-- Everything `try_parse` can answer with (R70): a cartridge at reset, of the header's type. -/
theorem tryParse_ok {init : CartInit} {rom : RomImage} {c : Cartridge} (h : tryParse init rom = .ok c) :
    0x150 ≤ rom.size ∧ ∃ kind features, cartType (readHeader rom).typeByte = some (kind, features)
      ∧ c = cartReset init { rom := rom, header := readHeader rom, features := features,
                             mbc := mbcReset init kind, cram := [] } := by
  unfold tryParse at h
  split at h
  · simp at h
  · rename_i hs
    dsimp only at h
    split at h
    · simp at h
    · rename_i kind features ht
      simp only [Except.ok.injEq] at h
      exact ⟨by omega, kind, features, ht, h.symm⟩

/-- A cartridge parsed from bytes is well formed. -/
theorem cartWf_tryParse {init : CartInit} {bytes : List Byte} {c : Cartridge}
    (h : tryParse init (RomImage.ofBytes bytes) = .ok c) : cartWf c = true := by
  obtain ⟨hs, kind, features, ht, rfl⟩ := tryParse_ok h
  refine cartWf_cartReset init hs (wfZ_imageCells _ _) ?_ rfl (by simpa using ht)
  exact keysBelow_imageCells _ _ _ (by simp [RomImage.ofBytes])

end Sys2Proof.Machine
end

