-- ==== Sys2Proof/Laws/Decode.lean ====
section
/-! SUPPORT. The decoder and the encoder on every byte: the prefixed map, the primary map, and the lengths. -/

namespace Sys2Proof

/-- The fields of a prefixed byte give the byte back (R116). -/
theorem cbForm_byte (cbop : Byte) : (cbForm cbop).byte = cbop := by
  revert cbop; decide

/-- The prefixed map agrees with the fields of its byte (R116, R118). -/
theorem decodeCb_form (cbop : Byte) : (decodeCb cbop).form = .cb (cbForm cbop) := by
  revert cbop; decide

/-- No prefixed byte decodes to the prefix row (R116). -/
theorem decodeCb_wellFormed (cbop : Byte) : (decodeCb cbop).wellFormed = true := by
  revert cbop; decide

/-- The bytes of the instruction three bytes decode to: as many of them as its first byte says (R118). -/
theorem encode_decodeParts (b0 b1 b2 : Byte) :
    encode (decodeParts b0 b1 b2) = [b0, b1, b2].take (instrLength b0) := by
  revert b0
  apply forall_byte
  intro k hk
  interval_cases k
  all_goals first
    | rfl
    | (show [_, lowByte (pack b1 b2), highByte (pack b1 b2)] = _
       rw [lowByte_pack, highByte_pack]; rfl)
    | (show (decodeCb b1).form.bytes = _
       rw [decodeCb_form]; show [_, (cbForm b1).byte] = _; rw [cbForm_byte]; rfl)

/-- Nothing decodes to the prefix row (R116). -/
theorem decodeParts_wellFormed (b0 b1 b2 : Byte) : (decodeParts b0 b1 b2).wellFormed = true := by
  revert b0
  apply forall_byte
  intro k hk
  interval_cases k
  all_goals first
    | rfl
    | exact decodeCb_wellFormed b1

/-- An instruction's length is 1, 2 or 3 (R102). -/
theorem instrLength_cases (b0 : Byte) : instrLength b0 = 1 ∨ instrLength b0 = 2 ∨ instrLength b0 = 3 := by
  unfold instrLength; split
  · exact .inr (.inl rfl)
  · split
    · exact .inr (.inr rfl)
    · exact .inl rfl

end Sys2Proof
end

