-- ==== Sys2Proof/Laws/Form.lean ====
section
/-! SUPPORT. The meaning of an instruction by its form: 512 rows are 56 forms at their operand fields. A
proof about `exec` goes through `exec_form` and then by the form. -/

namespace Sys2Proof.Machine

/-- The meaning of a form (R124 to R229). -/
def execForm (f : Form) (s : State) : Result :=
  match f with
  | .ldRegReg dst src => ldRegReg dst src s
  | .ldRegImm dst n => ldRegImm dst n s
  | .ldRegHl dst => ldRegHl dst s
  | .ldHlReg src => ldHlReg src s
  | .ldHlImm n => execLdAtHlN8 n s
  | .ldABc => loadA s.bc 8 s
  | .ldADe => loadA s.de 8 s
  | .ldBcA => storeA s.bc 8 s
  | .ldDeA => storeA s.de 8 s
  | .ldHlIncA => storeAHlStep 1#16 s
  | .ldHlDecA => storeAHlStep (-1#16) s
  | .ldAHlInc => loadAHlStep 1#16 s
  | .ldAHlDec => loadAHlStep (-1#16) s
  | .ldAAbs n => loadA n 16 s
  | .ldAbsA n => storeA n 16 s
  | .ldAHigh n => loadA (highPage n) 12 s
  | .ldHighA n => storeA (highPage n) 12 s
  | .ldAHighC => loadA (highPage s.c) 8 s
  | .ldHighCA => storeA (highPage s.c) 8 s
  | .ldPairImm p n => ldPairImm p n s
  | .ldAbsSp n => execLdAtN16Sp n s
  | .ldSpHl => execLdSpHl s
  | .ldHlSpOff n => execLdHlSpE8 n s
  | .push q => pushPair q s
  | .pop q => popPair q s
  | .aluReg op r => aluReg op r s
  | .aluHl op => aluHl op s
  | .aluImm op n => aluImm op n s
  | .incReg r => incReg r s
  | .incAtHl => execIncAtHl s
  | .decReg r => decReg r s
  | .decAtHl => execDecAtHl s
  | .daa => execDaa s
  | .cpl => execCpl s
  | .scf => execScf s
  | .ccf => execCcf s
  | .addHl p => addHl p s
  | .incPair p => incPair p s
  | .decPair p => decPair p s
  | .addSp n => execAddSpE8 n s
  | .rlca => rotA .rlc s
  | .rrca => rotA .rrc s
  | .rla => rotA .rl s
  | .rra => rotA .rr s
  | .cb f => runCb f s
  | .jp n => execJpN16 n s
  | .jpCond cc n => jpCond cc n s
  | .jpHl => execJpHl s
  | .jr n => execJrE8 n s
  | .jrCond cc n => jrCond cc n s
  | .call n => execCallN16 n s
  | .callCond cc n => callCond cc n s
  | .rst t => rst t s
  | .ret => execRet s
  | .retCond cc => retCond cc s
  | .reti => execReti s
  | .nop => execNop s
  | .halt => execHalt s
  | .stop n => execStop n s
  | .di => execDi s
  | .ei => execEi s
  | .undefined b => lockUp b s

/-- Every arm of `exec` is its form's meaning. -/
theorem exec_form (i : Instr) (s : State) : exec i s = execForm i.form s := by
  cases i <;> rfl

end Sys2Proof.Machine
end

