-- ==== Sys2Proof/Laws/State.lean ====
section
/-! SUPPORT. One lemma per field of State per update, so that no proof unfolds a record update. -/

namespace Sys2Proof.Machine

/-! ### tick -/

@[simp] theorem State.tick_a (s : State) (n : Nat) :
    (State.tick n s).a = s.a := rfl
@[simp] theorem State.tick_f (s : State) (n : Nat) :
    (State.tick n s).f = s.f := rfl
@[simp] theorem State.tick_b (s : State) (n : Nat) :
    (State.tick n s).b = s.b := rfl
@[simp] theorem State.tick_c (s : State) (n : Nat) :
    (State.tick n s).c = s.c := rfl
@[simp] theorem State.tick_d (s : State) (n : Nat) :
    (State.tick n s).d = s.d := rfl
@[simp] theorem State.tick_e (s : State) (n : Nat) :
    (State.tick n s).e = s.e := rfl
@[simp] theorem State.tick_h (s : State) (n : Nat) :
    (State.tick n s).h = s.h := rfl
@[simp] theorem State.tick_l (s : State) (n : Nat) :
    (State.tick n s).l = s.l := rfl
@[simp] theorem State.tick_sp (s : State) (n : Nat) :
    (State.tick n s).sp = s.sp := rfl
@[simp] theorem State.tick_pc (s : State) (n : Nat) :
    (State.tick n s).pc = s.pc := rfl
@[simp] theorem State.tick_ime (s : State) (n : Nat) :
    (State.tick n s).ime = s.ime := rfl
@[simp] theorem State.tick_imePending (s : State) (n : Nat) :
    (State.tick n s).imePending = s.imePending := rfl
@[simp] theorem State.tick_mode (s : State) (n : Nat) :
    (State.tick n s).mode = s.mode := rfl
@[simp] theorem State.tick_fault (s : State) (n : Nat) :
    (State.tick n s).fault = s.fault := rfl
@[simp] theorem State.tick_cycles (s : State) (n : Nat) :
    (State.tick n s).cycles = s.cycles + n := rfl
@[simp] theorem State.tick_mem (s : State) (n : Nat) :
    (State.tick n s).mem = s.mem := rfl
@[simp] theorem State.tick_ie (s : State) (n : Nat) :
    (State.tick n s).ie = s.ie := rfl
@[simp] theorem State.tick_bootMapped (s : State) (n : Nat) :
    (State.tick n s).bootMapped = s.bootMapped := rfl
@[simp] theorem State.tick_cart (s : State) (n : Nat) :
    (State.tick n s).cart = s.cart := rfl

/-! ### setF -/

@[simp] theorem State.setF_a (s : State) (v : Byte) :
    (State.setF v s).a = s.a := rfl
@[simp] theorem State.setF_f (s : State) (v : Byte) :
    (State.setF v s).f = v &&& 0xF0#8 := rfl
@[simp] theorem State.setF_b (s : State) (v : Byte) :
    (State.setF v s).b = s.b := rfl
@[simp] theorem State.setF_c (s : State) (v : Byte) :
    (State.setF v s).c = s.c := rfl
@[simp] theorem State.setF_d (s : State) (v : Byte) :
    (State.setF v s).d = s.d := rfl
@[simp] theorem State.setF_e (s : State) (v : Byte) :
    (State.setF v s).e = s.e := rfl
@[simp] theorem State.setF_h (s : State) (v : Byte) :
    (State.setF v s).h = s.h := rfl
@[simp] theorem State.setF_l (s : State) (v : Byte) :
    (State.setF v s).l = s.l := rfl
@[simp] theorem State.setF_sp (s : State) (v : Byte) :
    (State.setF v s).sp = s.sp := rfl
@[simp] theorem State.setF_pc (s : State) (v : Byte) :
    (State.setF v s).pc = s.pc := rfl
@[simp] theorem State.setF_ime (s : State) (v : Byte) :
    (State.setF v s).ime = s.ime := rfl
@[simp] theorem State.setF_imePending (s : State) (v : Byte) :
    (State.setF v s).imePending = s.imePending := rfl
@[simp] theorem State.setF_mode (s : State) (v : Byte) :
    (State.setF v s).mode = s.mode := rfl
@[simp] theorem State.setF_fault (s : State) (v : Byte) :
    (State.setF v s).fault = s.fault := rfl
@[simp] theorem State.setF_cycles (s : State) (v : Byte) :
    (State.setF v s).cycles = s.cycles := rfl
@[simp] theorem State.setF_mem (s : State) (v : Byte) :
    (State.setF v s).mem = s.mem := rfl
@[simp] theorem State.setF_ie (s : State) (v : Byte) :
    (State.setF v s).ie = s.ie := rfl
@[simp] theorem State.setF_bootMapped (s : State) (v : Byte) :
    (State.setF v s).bootMapped = s.bootMapped := rfl
@[simp] theorem State.setF_cart (s : State) (v : Byte) :
    (State.setF v s).cart = s.cart := rfl

/-! ### setBc -/

@[simp] theorem State.setBc_a (s : State) (w : Addr) :
    (State.setBc w s).a = s.a := rfl
@[simp] theorem State.setBc_f (s : State) (w : Addr) :
    (State.setBc w s).f = s.f := rfl
@[simp] theorem State.setBc_b (s : State) (w : Addr) :
    (State.setBc w s).b = highByte w := rfl
@[simp] theorem State.setBc_c (s : State) (w : Addr) :
    (State.setBc w s).c = lowByte w := rfl
@[simp] theorem State.setBc_d (s : State) (w : Addr) :
    (State.setBc w s).d = s.d := rfl
@[simp] theorem State.setBc_e (s : State) (w : Addr) :
    (State.setBc w s).e = s.e := rfl
@[simp] theorem State.setBc_h (s : State) (w : Addr) :
    (State.setBc w s).h = s.h := rfl
@[simp] theorem State.setBc_l (s : State) (w : Addr) :
    (State.setBc w s).l = s.l := rfl
@[simp] theorem State.setBc_sp (s : State) (w : Addr) :
    (State.setBc w s).sp = s.sp := rfl
@[simp] theorem State.setBc_pc (s : State) (w : Addr) :
    (State.setBc w s).pc = s.pc := rfl
@[simp] theorem State.setBc_ime (s : State) (w : Addr) :
    (State.setBc w s).ime = s.ime := rfl
@[simp] theorem State.setBc_imePending (s : State) (w : Addr) :
    (State.setBc w s).imePending = s.imePending := rfl
@[simp] theorem State.setBc_mode (s : State) (w : Addr) :
    (State.setBc w s).mode = s.mode := rfl
@[simp] theorem State.setBc_fault (s : State) (w : Addr) :
    (State.setBc w s).fault = s.fault := rfl
@[simp] theorem State.setBc_cycles (s : State) (w : Addr) :
    (State.setBc w s).cycles = s.cycles := rfl
@[simp] theorem State.setBc_mem (s : State) (w : Addr) :
    (State.setBc w s).mem = s.mem := rfl
@[simp] theorem State.setBc_ie (s : State) (w : Addr) :
    (State.setBc w s).ie = s.ie := rfl
@[simp] theorem State.setBc_bootMapped (s : State) (w : Addr) :
    (State.setBc w s).bootMapped = s.bootMapped := rfl
@[simp] theorem State.setBc_cart (s : State) (w : Addr) :
    (State.setBc w s).cart = s.cart := rfl

/-! ### setDe -/

@[simp] theorem State.setDe_a (s : State) (w : Addr) :
    (State.setDe w s).a = s.a := rfl
@[simp] theorem State.setDe_f (s : State) (w : Addr) :
    (State.setDe w s).f = s.f := rfl
@[simp] theorem State.setDe_b (s : State) (w : Addr) :
    (State.setDe w s).b = s.b := rfl
@[simp] theorem State.setDe_c (s : State) (w : Addr) :
    (State.setDe w s).c = s.c := rfl
@[simp] theorem State.setDe_d (s : State) (w : Addr) :
    (State.setDe w s).d = highByte w := rfl
@[simp] theorem State.setDe_e (s : State) (w : Addr) :
    (State.setDe w s).e = lowByte w := rfl
@[simp] theorem State.setDe_h (s : State) (w : Addr) :
    (State.setDe w s).h = s.h := rfl
@[simp] theorem State.setDe_l (s : State) (w : Addr) :
    (State.setDe w s).l = s.l := rfl
@[simp] theorem State.setDe_sp (s : State) (w : Addr) :
    (State.setDe w s).sp = s.sp := rfl
@[simp] theorem State.setDe_pc (s : State) (w : Addr) :
    (State.setDe w s).pc = s.pc := rfl
@[simp] theorem State.setDe_ime (s : State) (w : Addr) :
    (State.setDe w s).ime = s.ime := rfl
@[simp] theorem State.setDe_imePending (s : State) (w : Addr) :
    (State.setDe w s).imePending = s.imePending := rfl
@[simp] theorem State.setDe_mode (s : State) (w : Addr) :
    (State.setDe w s).mode = s.mode := rfl
@[simp] theorem State.setDe_fault (s : State) (w : Addr) :
    (State.setDe w s).fault = s.fault := rfl
@[simp] theorem State.setDe_cycles (s : State) (w : Addr) :
    (State.setDe w s).cycles = s.cycles := rfl
@[simp] theorem State.setDe_mem (s : State) (w : Addr) :
    (State.setDe w s).mem = s.mem := rfl
@[simp] theorem State.setDe_ie (s : State) (w : Addr) :
    (State.setDe w s).ie = s.ie := rfl
@[simp] theorem State.setDe_bootMapped (s : State) (w : Addr) :
    (State.setDe w s).bootMapped = s.bootMapped := rfl
@[simp] theorem State.setDe_cart (s : State) (w : Addr) :
    (State.setDe w s).cart = s.cart := rfl

/-! ### setHl -/

@[simp] theorem State.setHl_a (s : State) (w : Addr) :
    (State.setHl w s).a = s.a := rfl
@[simp] theorem State.setHl_f (s : State) (w : Addr) :
    (State.setHl w s).f = s.f := rfl
@[simp] theorem State.setHl_b (s : State) (w : Addr) :
    (State.setHl w s).b = s.b := rfl
@[simp] theorem State.setHl_c (s : State) (w : Addr) :
    (State.setHl w s).c = s.c := rfl
@[simp] theorem State.setHl_d (s : State) (w : Addr) :
    (State.setHl w s).d = s.d := rfl
@[simp] theorem State.setHl_e (s : State) (w : Addr) :
    (State.setHl w s).e = s.e := rfl
@[simp] theorem State.setHl_h (s : State) (w : Addr) :
    (State.setHl w s).h = highByte w := rfl
@[simp] theorem State.setHl_l (s : State) (w : Addr) :
    (State.setHl w s).l = lowByte w := rfl
@[simp] theorem State.setHl_sp (s : State) (w : Addr) :
    (State.setHl w s).sp = s.sp := rfl
@[simp] theorem State.setHl_pc (s : State) (w : Addr) :
    (State.setHl w s).pc = s.pc := rfl
@[simp] theorem State.setHl_ime (s : State) (w : Addr) :
    (State.setHl w s).ime = s.ime := rfl
@[simp] theorem State.setHl_imePending (s : State) (w : Addr) :
    (State.setHl w s).imePending = s.imePending := rfl
@[simp] theorem State.setHl_mode (s : State) (w : Addr) :
    (State.setHl w s).mode = s.mode := rfl
@[simp] theorem State.setHl_fault (s : State) (w : Addr) :
    (State.setHl w s).fault = s.fault := rfl
@[simp] theorem State.setHl_cycles (s : State) (w : Addr) :
    (State.setHl w s).cycles = s.cycles := rfl
@[simp] theorem State.setHl_mem (s : State) (w : Addr) :
    (State.setHl w s).mem = s.mem := rfl
@[simp] theorem State.setHl_ie (s : State) (w : Addr) :
    (State.setHl w s).ie = s.ie := rfl
@[simp] theorem State.setHl_bootMapped (s : State) (w : Addr) :
    (State.setHl w s).bootMapped = s.bootMapped := rfl
@[simp] theorem State.setHl_cart (s : State) (w : Addr) :
    (State.setHl w s).cart = s.cart := rfl

/-! ### setAf -/

@[simp] theorem State.setAf_a (s : State) (w : Addr) :
    (State.setAf w s).a = highByte w := rfl
@[simp] theorem State.setAf_f (s : State) (w : Addr) :
    (State.setAf w s).f = lowByte w &&& 0xF0#8 := rfl
@[simp] theorem State.setAf_b (s : State) (w : Addr) :
    (State.setAf w s).b = s.b := rfl
@[simp] theorem State.setAf_c (s : State) (w : Addr) :
    (State.setAf w s).c = s.c := rfl
@[simp] theorem State.setAf_d (s : State) (w : Addr) :
    (State.setAf w s).d = s.d := rfl
@[simp] theorem State.setAf_e (s : State) (w : Addr) :
    (State.setAf w s).e = s.e := rfl
@[simp] theorem State.setAf_h (s : State) (w : Addr) :
    (State.setAf w s).h = s.h := rfl
@[simp] theorem State.setAf_l (s : State) (w : Addr) :
    (State.setAf w s).l = s.l := rfl
@[simp] theorem State.setAf_sp (s : State) (w : Addr) :
    (State.setAf w s).sp = s.sp := rfl
@[simp] theorem State.setAf_pc (s : State) (w : Addr) :
    (State.setAf w s).pc = s.pc := rfl
@[simp] theorem State.setAf_ime (s : State) (w : Addr) :
    (State.setAf w s).ime = s.ime := rfl
@[simp] theorem State.setAf_imePending (s : State) (w : Addr) :
    (State.setAf w s).imePending = s.imePending := rfl
@[simp] theorem State.setAf_mode (s : State) (w : Addr) :
    (State.setAf w s).mode = s.mode := rfl
@[simp] theorem State.setAf_fault (s : State) (w : Addr) :
    (State.setAf w s).fault = s.fault := rfl
@[simp] theorem State.setAf_cycles (s : State) (w : Addr) :
    (State.setAf w s).cycles = s.cycles := rfl
@[simp] theorem State.setAf_mem (s : State) (w : Addr) :
    (State.setAf w s).mem = s.mem := rfl
@[simp] theorem State.setAf_ie (s : State) (w : Addr) :
    (State.setAf w s).ie = s.ie := rfl
@[simp] theorem State.setAf_bootMapped (s : State) (w : Addr) :
    (State.setAf w s).bootMapped = s.bootMapped := rfl
@[simp] theorem State.setAf_cart (s : State) (w : Addr) :
    (State.setAf w s).cart = s.cart := rfl

/-! ### clearRequest -/

@[simp] theorem State.clearRequest_a (s : State) (n : Nat) :
    (State.clearRequest n s).a = s.a := rfl
@[simp] theorem State.clearRequest_f (s : State) (n : Nat) :
    (State.clearRequest n s).f = s.f := rfl
@[simp] theorem State.clearRequest_b (s : State) (n : Nat) :
    (State.clearRequest n s).b = s.b := rfl
@[simp] theorem State.clearRequest_c (s : State) (n : Nat) :
    (State.clearRequest n s).c = s.c := rfl
@[simp] theorem State.clearRequest_d (s : State) (n : Nat) :
    (State.clearRequest n s).d = s.d := rfl
@[simp] theorem State.clearRequest_e (s : State) (n : Nat) :
    (State.clearRequest n s).e = s.e := rfl
@[simp] theorem State.clearRequest_h (s : State) (n : Nat) :
    (State.clearRequest n s).h = s.h := rfl
@[simp] theorem State.clearRequest_l (s : State) (n : Nat) :
    (State.clearRequest n s).l = s.l := rfl
@[simp] theorem State.clearRequest_sp (s : State) (n : Nat) :
    (State.clearRequest n s).sp = s.sp := rfl
@[simp] theorem State.clearRequest_pc (s : State) (n : Nat) :
    (State.clearRequest n s).pc = s.pc := rfl
@[simp] theorem State.clearRequest_ime (s : State) (n : Nat) :
    (State.clearRequest n s).ime = s.ime := rfl
@[simp] theorem State.clearRequest_imePending (s : State) (n : Nat) :
    (State.clearRequest n s).imePending = s.imePending := rfl
@[simp] theorem State.clearRequest_mode (s : State) (n : Nat) :
    (State.clearRequest n s).mode = s.mode := rfl
@[simp] theorem State.clearRequest_fault (s : State) (n : Nat) :
    (State.clearRequest n s).fault = s.fault := rfl
@[simp] theorem State.clearRequest_cycles (s : State) (n : Nat) :
    (State.clearRequest n s).cycles = s.cycles := rfl
@[simp] theorem State.clearRequest_mem (s : State) (n : Nat) :
    (State.clearRequest n s).mem = s.mem.write ifKey (s.ifReg &&& ~~~(1#8 <<< n)) := rfl
@[simp] theorem State.clearRequest_ie (s : State) (n : Nat) :
    (State.clearRequest n s).ie = s.ie := rfl
@[simp] theorem State.clearRequest_bootMapped (s : State) (n : Nat) :
    (State.clearRequest n s).bootMapped = s.bootMapped := rfl
@[simp] theorem State.clearRequest_cart (s : State) (n : Nat) :
    (State.clearRequest n s).cart = s.cart := rfl

/-! ### writeFlags -/

@[simp] theorem State.writeFlags_a (s : State) (z n h c : Bool) :
    (State.writeFlags z n h c s).a = s.a := rfl
@[simp] theorem State.writeFlags_f (s : State) (z n h c : Bool) :
    (State.writeFlags z n h c s).f = packFlags z n h c := rfl
@[simp] theorem State.writeFlags_b (s : State) (z n h c : Bool) :
    (State.writeFlags z n h c s).b = s.b := rfl
@[simp] theorem State.writeFlags_c (s : State) (z n h c : Bool) :
    (State.writeFlags z n h c s).c = s.c := rfl
@[simp] theorem State.writeFlags_d (s : State) (z n h c : Bool) :
    (State.writeFlags z n h c s).d = s.d := rfl
@[simp] theorem State.writeFlags_e (s : State) (z n h c : Bool) :
    (State.writeFlags z n h c s).e = s.e := rfl
@[simp] theorem State.writeFlags_h (s : State) (z n h c : Bool) :
    (State.writeFlags z n h c s).h = s.h := rfl
@[simp] theorem State.writeFlags_l (s : State) (z n h c : Bool) :
    (State.writeFlags z n h c s).l = s.l := rfl
@[simp] theorem State.writeFlags_sp (s : State) (z n h c : Bool) :
    (State.writeFlags z n h c s).sp = s.sp := rfl
@[simp] theorem State.writeFlags_pc (s : State) (z n h c : Bool) :
    (State.writeFlags z n h c s).pc = s.pc := rfl
@[simp] theorem State.writeFlags_ime (s : State) (z n h c : Bool) :
    (State.writeFlags z n h c s).ime = s.ime := rfl
@[simp] theorem State.writeFlags_imePending (s : State) (z n h c : Bool) :
    (State.writeFlags z n h c s).imePending = s.imePending := rfl
@[simp] theorem State.writeFlags_mode (s : State) (z n h c : Bool) :
    (State.writeFlags z n h c s).mode = s.mode := rfl
@[simp] theorem State.writeFlags_fault (s : State) (z n h c : Bool) :
    (State.writeFlags z n h c s).fault = s.fault := rfl
@[simp] theorem State.writeFlags_cycles (s : State) (z n h c : Bool) :
    (State.writeFlags z n h c s).cycles = s.cycles := rfl
@[simp] theorem State.writeFlags_mem (s : State) (z n h c : Bool) :
    (State.writeFlags z n h c s).mem = s.mem := rfl
@[simp] theorem State.writeFlags_ie (s : State) (z n h c : Bool) :
    (State.writeFlags z n h c s).ie = s.ie := rfl
@[simp] theorem State.writeFlags_bootMapped (s : State) (z n h c : Bool) :
    (State.writeFlags z n h c s).bootMapped = s.bootMapped := rfl
@[simp] theorem State.writeFlags_cart (s : State) (z n h c : Bool) :
    (State.writeFlags z n h c s).cart = s.cart := rfl

/-! ### aluFlags -/

@[simp] theorem State.aluFlags_a (s : State) (o : AluOut) :
    (State.aluFlags o s).a = s.a := rfl
@[simp] theorem State.aluFlags_f (s : State) (o : AluOut) :
    (State.aluFlags o s).f = packFlags o.z o.n o.h o.c := rfl
@[simp] theorem State.aluFlags_b (s : State) (o : AluOut) :
    (State.aluFlags o s).b = s.b := rfl
@[simp] theorem State.aluFlags_c (s : State) (o : AluOut) :
    (State.aluFlags o s).c = s.c := rfl
@[simp] theorem State.aluFlags_d (s : State) (o : AluOut) :
    (State.aluFlags o s).d = s.d := rfl
@[simp] theorem State.aluFlags_e (s : State) (o : AluOut) :
    (State.aluFlags o s).e = s.e := rfl
@[simp] theorem State.aluFlags_h (s : State) (o : AluOut) :
    (State.aluFlags o s).h = s.h := rfl
@[simp] theorem State.aluFlags_l (s : State) (o : AluOut) :
    (State.aluFlags o s).l = s.l := rfl
@[simp] theorem State.aluFlags_sp (s : State) (o : AluOut) :
    (State.aluFlags o s).sp = s.sp := rfl
@[simp] theorem State.aluFlags_pc (s : State) (o : AluOut) :
    (State.aluFlags o s).pc = s.pc := rfl
@[simp] theorem State.aluFlags_ime (s : State) (o : AluOut) :
    (State.aluFlags o s).ime = s.ime := rfl
@[simp] theorem State.aluFlags_imePending (s : State) (o : AluOut) :
    (State.aluFlags o s).imePending = s.imePending := rfl
@[simp] theorem State.aluFlags_mode (s : State) (o : AluOut) :
    (State.aluFlags o s).mode = s.mode := rfl
@[simp] theorem State.aluFlags_fault (s : State) (o : AluOut) :
    (State.aluFlags o s).fault = s.fault := rfl
@[simp] theorem State.aluFlags_cycles (s : State) (o : AluOut) :
    (State.aluFlags o s).cycles = s.cycles := rfl
@[simp] theorem State.aluFlags_mem (s : State) (o : AluOut) :
    (State.aluFlags o s).mem = s.mem := rfl
@[simp] theorem State.aluFlags_ie (s : State) (o : AluOut) :
    (State.aluFlags o s).ie = s.ie := rfl
@[simp] theorem State.aluFlags_bootMapped (s : State) (o : AluOut) :
    (State.aluFlags o s).bootMapped = s.bootMapped := rfl
@[simp] theorem State.aluFlags_cart (s : State) (o : AluOut) :
    (State.aluFlags o s).cart = s.cart := rfl

/-! ### rotFlags -/

@[simp] theorem State.rotFlags_a (s : State) (o : ShiftOut) :
    (State.rotFlags o s).a = s.a := rfl
@[simp] theorem State.rotFlags_f (s : State) (o : ShiftOut) :
    (State.rotFlags o s).f = packFlags (o.val == 0#8) false false o.c := rfl
@[simp] theorem State.rotFlags_b (s : State) (o : ShiftOut) :
    (State.rotFlags o s).b = s.b := rfl
@[simp] theorem State.rotFlags_c (s : State) (o : ShiftOut) :
    (State.rotFlags o s).c = s.c := rfl
@[simp] theorem State.rotFlags_d (s : State) (o : ShiftOut) :
    (State.rotFlags o s).d = s.d := rfl
@[simp] theorem State.rotFlags_e (s : State) (o : ShiftOut) :
    (State.rotFlags o s).e = s.e := rfl
@[simp] theorem State.rotFlags_h (s : State) (o : ShiftOut) :
    (State.rotFlags o s).h = s.h := rfl
@[simp] theorem State.rotFlags_l (s : State) (o : ShiftOut) :
    (State.rotFlags o s).l = s.l := rfl
@[simp] theorem State.rotFlags_sp (s : State) (o : ShiftOut) :
    (State.rotFlags o s).sp = s.sp := rfl
@[simp] theorem State.rotFlags_pc (s : State) (o : ShiftOut) :
    (State.rotFlags o s).pc = s.pc := rfl
@[simp] theorem State.rotFlags_ime (s : State) (o : ShiftOut) :
    (State.rotFlags o s).ime = s.ime := rfl
@[simp] theorem State.rotFlags_imePending (s : State) (o : ShiftOut) :
    (State.rotFlags o s).imePending = s.imePending := rfl
@[simp] theorem State.rotFlags_mode (s : State) (o : ShiftOut) :
    (State.rotFlags o s).mode = s.mode := rfl
@[simp] theorem State.rotFlags_fault (s : State) (o : ShiftOut) :
    (State.rotFlags o s).fault = s.fault := rfl
@[simp] theorem State.rotFlags_cycles (s : State) (o : ShiftOut) :
    (State.rotFlags o s).cycles = s.cycles := rfl
@[simp] theorem State.rotFlags_mem (s : State) (o : ShiftOut) :
    (State.rotFlags o s).mem = s.mem := rfl
@[simp] theorem State.rotFlags_ie (s : State) (o : ShiftOut) :
    (State.rotFlags o s).ie = s.ie := rfl
@[simp] theorem State.rotFlags_bootMapped (s : State) (o : ShiftOut) :
    (State.rotFlags o s).bootMapped = s.bootMapped := rfl
@[simp] theorem State.rotFlags_cart (s : State) (o : ShiftOut) :
    (State.rotFlags o s).cart = s.cart := rfl

/-! ### bitFlags -/

@[simp] theorem State.bitFlags_a (s : State) (n : Fin 8) (v : Byte) :
    (State.bitFlags n v s).a = s.a := rfl
@[simp] theorem State.bitFlags_f (s : State) (n : Fin 8) (v : Byte) :
    (State.bitFlags n v s).f = packFlags (!bitOf v n.val) false true s.flagC := rfl
@[simp] theorem State.bitFlags_b (s : State) (n : Fin 8) (v : Byte) :
    (State.bitFlags n v s).b = s.b := rfl
@[simp] theorem State.bitFlags_c (s : State) (n : Fin 8) (v : Byte) :
    (State.bitFlags n v s).c = s.c := rfl
@[simp] theorem State.bitFlags_d (s : State) (n : Fin 8) (v : Byte) :
    (State.bitFlags n v s).d = s.d := rfl
@[simp] theorem State.bitFlags_e (s : State) (n : Fin 8) (v : Byte) :
    (State.bitFlags n v s).e = s.e := rfl
@[simp] theorem State.bitFlags_h (s : State) (n : Fin 8) (v : Byte) :
    (State.bitFlags n v s).h = s.h := rfl
@[simp] theorem State.bitFlags_l (s : State) (n : Fin 8) (v : Byte) :
    (State.bitFlags n v s).l = s.l := rfl
@[simp] theorem State.bitFlags_sp (s : State) (n : Fin 8) (v : Byte) :
    (State.bitFlags n v s).sp = s.sp := rfl
@[simp] theorem State.bitFlags_pc (s : State) (n : Fin 8) (v : Byte) :
    (State.bitFlags n v s).pc = s.pc := rfl
@[simp] theorem State.bitFlags_ime (s : State) (n : Fin 8) (v : Byte) :
    (State.bitFlags n v s).ime = s.ime := rfl
@[simp] theorem State.bitFlags_imePending (s : State) (n : Fin 8) (v : Byte) :
    (State.bitFlags n v s).imePending = s.imePending := rfl
@[simp] theorem State.bitFlags_mode (s : State) (n : Fin 8) (v : Byte) :
    (State.bitFlags n v s).mode = s.mode := rfl
@[simp] theorem State.bitFlags_fault (s : State) (n : Fin 8) (v : Byte) :
    (State.bitFlags n v s).fault = s.fault := rfl
@[simp] theorem State.bitFlags_cycles (s : State) (n : Fin 8) (v : Byte) :
    (State.bitFlags n v s).cycles = s.cycles := rfl
@[simp] theorem State.bitFlags_mem (s : State) (n : Fin 8) (v : Byte) :
    (State.bitFlags n v s).mem = s.mem := rfl
@[simp] theorem State.bitFlags_ie (s : State) (n : Fin 8) (v : Byte) :
    (State.bitFlags n v s).ie = s.ie := rfl
@[simp] theorem State.bitFlags_bootMapped (s : State) (n : Fin 8) (v : Byte) :
    (State.bitFlags n v s).bootMapped = s.bootMapped := rfl
@[simp] theorem State.bitFlags_cart (s : State) (n : Fin 8) (v : Byte) :
    (State.bitFlags n v s).cart = s.cart := rfl

/-! ### jump -/

@[simp] theorem State.jump_a (s : State) (w : Addr) :
    (State.jump w s).a = s.a := rfl
@[simp] theorem State.jump_f (s : State) (w : Addr) :
    (State.jump w s).f = s.f := rfl
@[simp] theorem State.jump_b (s : State) (w : Addr) :
    (State.jump w s).b = s.b := rfl
@[simp] theorem State.jump_c (s : State) (w : Addr) :
    (State.jump w s).c = s.c := rfl
@[simp] theorem State.jump_d (s : State) (w : Addr) :
    (State.jump w s).d = s.d := rfl
@[simp] theorem State.jump_e (s : State) (w : Addr) :
    (State.jump w s).e = s.e := rfl
@[simp] theorem State.jump_h (s : State) (w : Addr) :
    (State.jump w s).h = s.h := rfl
@[simp] theorem State.jump_l (s : State) (w : Addr) :
    (State.jump w s).l = s.l := rfl
@[simp] theorem State.jump_sp (s : State) (w : Addr) :
    (State.jump w s).sp = s.sp := rfl
@[simp] theorem State.jump_pc (s : State) (w : Addr) :
    (State.jump w s).pc = w := rfl
@[simp] theorem State.jump_ime (s : State) (w : Addr) :
    (State.jump w s).ime = s.ime := rfl
@[simp] theorem State.jump_imePending (s : State) (w : Addr) :
    (State.jump w s).imePending = s.imePending := rfl
@[simp] theorem State.jump_mode (s : State) (w : Addr) :
    (State.jump w s).mode = s.mode := rfl
@[simp] theorem State.jump_fault (s : State) (w : Addr) :
    (State.jump w s).fault = s.fault := rfl
@[simp] theorem State.jump_cycles (s : State) (w : Addr) :
    (State.jump w s).cycles = s.cycles := rfl
@[simp] theorem State.jump_mem (s : State) (w : Addr) :
    (State.jump w s).mem = s.mem := rfl
@[simp] theorem State.jump_ie (s : State) (w : Addr) :
    (State.jump w s).ie = s.ie := rfl
@[simp] theorem State.jump_bootMapped (s : State) (w : Addr) :
    (State.jump w s).bootMapped = s.bootMapped := rfl
@[simp] theorem State.jump_cart (s : State) (w : Addr) :
    (State.jump w s).cart = s.cart := rfl

/-! ### advance -/

@[simp] theorem State.advance_a (s : State) (n : Nat) :
    (State.advance n s).a = s.a := rfl
@[simp] theorem State.advance_f (s : State) (n : Nat) :
    (State.advance n s).f = s.f := rfl
@[simp] theorem State.advance_b (s : State) (n : Nat) :
    (State.advance n s).b = s.b := rfl
@[simp] theorem State.advance_c (s : State) (n : Nat) :
    (State.advance n s).c = s.c := rfl
@[simp] theorem State.advance_d (s : State) (n : Nat) :
    (State.advance n s).d = s.d := rfl
@[simp] theorem State.advance_e (s : State) (n : Nat) :
    (State.advance n s).e = s.e := rfl
@[simp] theorem State.advance_h (s : State) (n : Nat) :
    (State.advance n s).h = s.h := rfl
@[simp] theorem State.advance_l (s : State) (n : Nat) :
    (State.advance n s).l = s.l := rfl
@[simp] theorem State.advance_sp (s : State) (n : Nat) :
    (State.advance n s).sp = s.sp := rfl
@[simp] theorem State.advance_pc (s : State) (n : Nat) :
    (State.advance n s).pc = s.pc + BitVec.ofNat 16 n := rfl
@[simp] theorem State.advance_ime (s : State) (n : Nat) :
    (State.advance n s).ime = s.ime := rfl
@[simp] theorem State.advance_imePending (s : State) (n : Nat) :
    (State.advance n s).imePending = s.imePending := rfl
@[simp] theorem State.advance_mode (s : State) (n : Nat) :
    (State.advance n s).mode = s.mode := rfl
@[simp] theorem State.advance_fault (s : State) (n : Nat) :
    (State.advance n s).fault = s.fault := rfl
@[simp] theorem State.advance_cycles (s : State) (n : Nat) :
    (State.advance n s).cycles = s.cycles := rfl
@[simp] theorem State.advance_mem (s : State) (n : Nat) :
    (State.advance n s).mem = s.mem := rfl
@[simp] theorem State.advance_ie (s : State) (n : Nat) :
    (State.advance n s).ie = s.ie := rfl
@[simp] theorem State.advance_bootMapped (s : State) (n : Nat) :
    (State.advance n s).bootMapped = s.bootMapped := rfl
@[simp] theorem State.advance_cart (s : State) (n : Nat) :
    (State.advance n s).cart = s.cart := rfl

/-! ### aluApply -/

@[simp] theorem State.aluApply_b (s : State) (op : AluOp) (v : Byte) :
    (State.aluApply op v s).b = s.b := by cases op <;> rfl
@[simp] theorem State.aluApply_c (s : State) (op : AluOp) (v : Byte) :
    (State.aluApply op v s).c = s.c := by cases op <;> rfl
@[simp] theorem State.aluApply_d (s : State) (op : AluOp) (v : Byte) :
    (State.aluApply op v s).d = s.d := by cases op <;> rfl
@[simp] theorem State.aluApply_e (s : State) (op : AluOp) (v : Byte) :
    (State.aluApply op v s).e = s.e := by cases op <;> rfl
@[simp] theorem State.aluApply_h (s : State) (op : AluOp) (v : Byte) :
    (State.aluApply op v s).h = s.h := by cases op <;> rfl
@[simp] theorem State.aluApply_l (s : State) (op : AluOp) (v : Byte) :
    (State.aluApply op v s).l = s.l := by cases op <;> rfl
@[simp] theorem State.aluApply_sp (s : State) (op : AluOp) (v : Byte) :
    (State.aluApply op v s).sp = s.sp := by cases op <;> rfl
@[simp] theorem State.aluApply_pc (s : State) (op : AluOp) (v : Byte) :
    (State.aluApply op v s).pc = s.pc := by cases op <;> rfl
@[simp] theorem State.aluApply_ime (s : State) (op : AluOp) (v : Byte) :
    (State.aluApply op v s).ime = s.ime := by cases op <;> rfl
@[simp] theorem State.aluApply_imePending (s : State) (op : AluOp) (v : Byte) :
    (State.aluApply op v s).imePending = s.imePending := by cases op <;> rfl
@[simp] theorem State.aluApply_mode (s : State) (op : AluOp) (v : Byte) :
    (State.aluApply op v s).mode = s.mode := by cases op <;> rfl
@[simp] theorem State.aluApply_fault (s : State) (op : AluOp) (v : Byte) :
    (State.aluApply op v s).fault = s.fault := by cases op <;> rfl
@[simp] theorem State.aluApply_cycles (s : State) (op : AluOp) (v : Byte) :
    (State.aluApply op v s).cycles = s.cycles := by cases op <;> rfl
@[simp] theorem State.aluApply_mem (s : State) (op : AluOp) (v : Byte) :
    (State.aluApply op v s).mem = s.mem := by cases op <;> rfl
@[simp] theorem State.aluApply_ie (s : State) (op : AluOp) (v : Byte) :
    (State.aluApply op v s).ie = s.ie := by cases op <;> rfl
@[simp] theorem State.aluApply_bootMapped (s : State) (op : AluOp) (v : Byte) :
    (State.aluApply op v s).bootMapped = s.bootMapped := by cases op <;> rfl
@[simp] theorem State.aluApply_cart (s : State) (op : AluOp) (v : Byte) :
    (State.aluApply op v s).cart = s.cart := by cases op <;> rfl

/-! ### setReg -/

@[simp] theorem State.setReg_f (s : State) (r : Reg8) (v : Byte) :
    (State.setReg r v s).f = s.f := by cases r <;> rfl
@[simp] theorem State.setReg_sp (s : State) (r : Reg8) (v : Byte) :
    (State.setReg r v s).sp = s.sp := by cases r <;> rfl
@[simp] theorem State.setReg_pc (s : State) (r : Reg8) (v : Byte) :
    (State.setReg r v s).pc = s.pc := by cases r <;> rfl
@[simp] theorem State.setReg_ime (s : State) (r : Reg8) (v : Byte) :
    (State.setReg r v s).ime = s.ime := by cases r <;> rfl
@[simp] theorem State.setReg_imePending (s : State) (r : Reg8) (v : Byte) :
    (State.setReg r v s).imePending = s.imePending := by cases r <;> rfl
@[simp] theorem State.setReg_mode (s : State) (r : Reg8) (v : Byte) :
    (State.setReg r v s).mode = s.mode := by cases r <;> rfl
@[simp] theorem State.setReg_fault (s : State) (r : Reg8) (v : Byte) :
    (State.setReg r v s).fault = s.fault := by cases r <;> rfl
@[simp] theorem State.setReg_cycles (s : State) (r : Reg8) (v : Byte) :
    (State.setReg r v s).cycles = s.cycles := by cases r <;> rfl
@[simp] theorem State.setReg_mem (s : State) (r : Reg8) (v : Byte) :
    (State.setReg r v s).mem = s.mem := by cases r <;> rfl
@[simp] theorem State.setReg_ie (s : State) (r : Reg8) (v : Byte) :
    (State.setReg r v s).ie = s.ie := by cases r <;> rfl
@[simp] theorem State.setReg_bootMapped (s : State) (r : Reg8) (v : Byte) :
    (State.setReg r v s).bootMapped = s.bootMapped := by cases r <;> rfl
@[simp] theorem State.setReg_cart (s : State) (r : Reg8) (v : Byte) :
    (State.setReg r v s).cart = s.cart := by cases r <;> rfl

/-! ### setPair -/

@[simp] theorem State.setPair_a (s : State) (p : Pair) (w : Addr) :
    (State.setPair p w s).a = s.a := by cases p <;> rfl
@[simp] theorem State.setPair_f (s : State) (p : Pair) (w : Addr) :
    (State.setPair p w s).f = s.f := by cases p <;> rfl
@[simp] theorem State.setPair_pc (s : State) (p : Pair) (w : Addr) :
    (State.setPair p w s).pc = s.pc := by cases p <;> rfl
@[simp] theorem State.setPair_ime (s : State) (p : Pair) (w : Addr) :
    (State.setPair p w s).ime = s.ime := by cases p <;> rfl
@[simp] theorem State.setPair_imePending (s : State) (p : Pair) (w : Addr) :
    (State.setPair p w s).imePending = s.imePending := by cases p <;> rfl
@[simp] theorem State.setPair_mode (s : State) (p : Pair) (w : Addr) :
    (State.setPair p w s).mode = s.mode := by cases p <;> rfl
@[simp] theorem State.setPair_fault (s : State) (p : Pair) (w : Addr) :
    (State.setPair p w s).fault = s.fault := by cases p <;> rfl
@[simp] theorem State.setPair_cycles (s : State) (p : Pair) (w : Addr) :
    (State.setPair p w s).cycles = s.cycles := by cases p <;> rfl
@[simp] theorem State.setPair_mem (s : State) (p : Pair) (w : Addr) :
    (State.setPair p w s).mem = s.mem := by cases p <;> rfl
@[simp] theorem State.setPair_ie (s : State) (p : Pair) (w : Addr) :
    (State.setPair p w s).ie = s.ie := by cases p <;> rfl
@[simp] theorem State.setPair_bootMapped (s : State) (p : Pair) (w : Addr) :
    (State.setPair p w s).bootMapped = s.bootMapped := by cases p <;> rfl
@[simp] theorem State.setPair_cart (s : State) (p : Pair) (w : Addr) :
    (State.setPair p w s).cart = s.cart := by cases p <;> rfl

/-! ### setStackPair -/

@[simp] theorem State.setStackPair_sp (s : State) (q : StackPair) (w : Addr) :
    (State.setStackPair q w s).sp = s.sp := by cases q <;> rfl
@[simp] theorem State.setStackPair_pc (s : State) (q : StackPair) (w : Addr) :
    (State.setStackPair q w s).pc = s.pc := by cases q <;> rfl
@[simp] theorem State.setStackPair_ime (s : State) (q : StackPair) (w : Addr) :
    (State.setStackPair q w s).ime = s.ime := by cases q <;> rfl
@[simp] theorem State.setStackPair_imePending (s : State) (q : StackPair) (w : Addr) :
    (State.setStackPair q w s).imePending = s.imePending := by cases q <;> rfl
@[simp] theorem State.setStackPair_mode (s : State) (q : StackPair) (w : Addr) :
    (State.setStackPair q w s).mode = s.mode := by cases q <;> rfl
@[simp] theorem State.setStackPair_fault (s : State) (q : StackPair) (w : Addr) :
    (State.setStackPair q w s).fault = s.fault := by cases q <;> rfl
@[simp] theorem State.setStackPair_cycles (s : State) (q : StackPair) (w : Addr) :
    (State.setStackPair q w s).cycles = s.cycles := by cases q <;> rfl
@[simp] theorem State.setStackPair_mem (s : State) (q : StackPair) (w : Addr) :
    (State.setStackPair q w s).mem = s.mem := by cases q <;> rfl
@[simp] theorem State.setStackPair_ie (s : State) (q : StackPair) (w : Addr) :
    (State.setStackPair q w s).ie = s.ie := by cases q <;> rfl
@[simp] theorem State.setStackPair_bootMapped (s : State) (q : StackPair) (w : Addr) :
    (State.setStackPair q w s).bootMapped = s.bootMapped := by cases q <;> rfl
@[simp] theorem State.setStackPair_cart (s : State) (q : StackPair) (w : Addr) :
    (State.setStackPair q w s).cart = s.cart := by cases q <;> rfl

/-! ### enableAfter -/

@[simp] theorem State.enableAfter_a (s : State) (n : Bool) :
    (State.enableAfter n s).a = s.a := by
  simp only [State.enableAfter]; split <;> rfl
@[simp] theorem State.enableAfter_f (s : State) (n : Bool) :
    (State.enableAfter n s).f = s.f := by
  simp only [State.enableAfter]; split <;> rfl
@[simp] theorem State.enableAfter_b (s : State) (n : Bool) :
    (State.enableAfter n s).b = s.b := by
  simp only [State.enableAfter]; split <;> rfl
@[simp] theorem State.enableAfter_c (s : State) (n : Bool) :
    (State.enableAfter n s).c = s.c := by
  simp only [State.enableAfter]; split <;> rfl
@[simp] theorem State.enableAfter_d (s : State) (n : Bool) :
    (State.enableAfter n s).d = s.d := by
  simp only [State.enableAfter]; split <;> rfl
@[simp] theorem State.enableAfter_e (s : State) (n : Bool) :
    (State.enableAfter n s).e = s.e := by
  simp only [State.enableAfter]; split <;> rfl
@[simp] theorem State.enableAfter_h (s : State) (n : Bool) :
    (State.enableAfter n s).h = s.h := by
  simp only [State.enableAfter]; split <;> rfl
@[simp] theorem State.enableAfter_l (s : State) (n : Bool) :
    (State.enableAfter n s).l = s.l := by
  simp only [State.enableAfter]; split <;> rfl
@[simp] theorem State.enableAfter_sp (s : State) (n : Bool) :
    (State.enableAfter n s).sp = s.sp := by
  simp only [State.enableAfter]; split <;> rfl
@[simp] theorem State.enableAfter_pc (s : State) (n : Bool) :
    (State.enableAfter n s).pc = s.pc := by
  simp only [State.enableAfter]; split <;> rfl
@[simp] theorem State.enableAfter_mode (s : State) (n : Bool) :
    (State.enableAfter n s).mode = s.mode := by
  simp only [State.enableAfter]; split <;> rfl
@[simp] theorem State.enableAfter_fault (s : State) (n : Bool) :
    (State.enableAfter n s).fault = s.fault := by
  simp only [State.enableAfter]; split <;> rfl
@[simp] theorem State.enableAfter_cycles (s : State) (n : Bool) :
    (State.enableAfter n s).cycles = s.cycles := by
  simp only [State.enableAfter]; split <;> rfl
@[simp] theorem State.enableAfter_mem (s : State) (n : Bool) :
    (State.enableAfter n s).mem = s.mem := by
  simp only [State.enableAfter]; split <;> rfl
@[simp] theorem State.enableAfter_ie (s : State) (n : Bool) :
    (State.enableAfter n s).ie = s.ie := by
  simp only [State.enableAfter]; split <;> rfl
@[simp] theorem State.enableAfter_bootMapped (s : State) (n : Bool) :
    (State.enableAfter n s).bootMapped = s.bootMapped := by
  simp only [State.enableAfter]; split <;> rfl
@[simp] theorem State.enableAfter_cart (s : State) (n : Bool) :
    (State.enableAfter n s).cart = s.cart := by
  simp only [State.enableAfter]; split <;> rfl

/-! ### busWrite -/

@[simp] theorem State.busWrite_a (s : State) (addr : Addr) (v : Byte) :
    (State.busWrite s addr v).a = s.a := by
  simp only [State.busWrite]; split <;> rfl
@[simp] theorem State.busWrite_f (s : State) (addr : Addr) (v : Byte) :
    (State.busWrite s addr v).f = s.f := by
  simp only [State.busWrite]; split <;> rfl
@[simp] theorem State.busWrite_b (s : State) (addr : Addr) (v : Byte) :
    (State.busWrite s addr v).b = s.b := by
  simp only [State.busWrite]; split <;> rfl
@[simp] theorem State.busWrite_c (s : State) (addr : Addr) (v : Byte) :
    (State.busWrite s addr v).c = s.c := by
  simp only [State.busWrite]; split <;> rfl
@[simp] theorem State.busWrite_d (s : State) (addr : Addr) (v : Byte) :
    (State.busWrite s addr v).d = s.d := by
  simp only [State.busWrite]; split <;> rfl
@[simp] theorem State.busWrite_e (s : State) (addr : Addr) (v : Byte) :
    (State.busWrite s addr v).e = s.e := by
  simp only [State.busWrite]; split <;> rfl
@[simp] theorem State.busWrite_h (s : State) (addr : Addr) (v : Byte) :
    (State.busWrite s addr v).h = s.h := by
  simp only [State.busWrite]; split <;> rfl
@[simp] theorem State.busWrite_l (s : State) (addr : Addr) (v : Byte) :
    (State.busWrite s addr v).l = s.l := by
  simp only [State.busWrite]; split <;> rfl
@[simp] theorem State.busWrite_sp (s : State) (addr : Addr) (v : Byte) :
    (State.busWrite s addr v).sp = s.sp := by
  simp only [State.busWrite]; split <;> rfl
@[simp] theorem State.busWrite_pc (s : State) (addr : Addr) (v : Byte) :
    (State.busWrite s addr v).pc = s.pc := by
  simp only [State.busWrite]; split <;> rfl
@[simp] theorem State.busWrite_ime (s : State) (addr : Addr) (v : Byte) :
    (State.busWrite s addr v).ime = s.ime := by
  simp only [State.busWrite]; split <;> rfl
@[simp] theorem State.busWrite_imePending (s : State) (addr : Addr) (v : Byte) :
    (State.busWrite s addr v).imePending = s.imePending := by
  simp only [State.busWrite]; split <;> rfl
@[simp] theorem State.busWrite_mode (s : State) (addr : Addr) (v : Byte) :
    (State.busWrite s addr v).mode = s.mode := by
  simp only [State.busWrite]; split <;> rfl
@[simp] theorem State.busWrite_fault (s : State) (addr : Addr) (v : Byte) :
    (State.busWrite s addr v).fault = s.fault := by
  simp only [State.busWrite]; split <;> rfl
@[simp] theorem State.busWrite_cycles (s : State) (addr : Addr) (v : Byte) :
    (State.busWrite s addr v).cycles = s.cycles := by
  simp only [State.busWrite]; split <;> rfl

/-! ### Registers by operand -/

/-- A register write and the register it names (R14). -/
@[simp] theorem State.reg_setReg_self (s : State) (r : Reg8) (v : Byte) :
    (State.setReg r v s).reg r = v := by cases r <;> rfl

/-- A register write leaves the others alone (R14). -/
theorem State.reg_setReg_ne (s : State) {r r' : Reg8} (v : Byte) (h : r' ≠ r) :
    (State.setReg r v s).reg r' = s.reg r' := by
  cases r <;> cases r' <;> first | rfl | exact absurd rfl h

end Sys2Proof.Machine
end

