-- ==== Sys2Proof/Laws/Ops.lean ====
section
/-! SUPPORT. One lemma per shared operation of the bus, the stack and (HL): what it answers where it is not
stopped by HuC1's infrared window, and that it is stopped exactly there. -/

namespace Sys2Proof.Machine

/-! ## Bytes -/

theorem readByte_free {s : State} {a : Addr} (k : Byte → Result) (h : s.irBlocked a = false) :
    readByte s a k = k (s.busRead a) := by simp [readByte, h]

theorem readByte_blocked {s : State} {a : Addr} (k : Byte → Result) (h : s.irBlocked a = true) :
    readByte s a k = .fault .huc1Ir := by simp [readByte, h]

theorem writeByte_free {s : State} {a : Addr} (v : Byte) (k : State → Result)
    (h : s.irBlocked a = false) : writeByte s a v k = k (s.busWrite a v) := by simp [writeByte, h]

theorem writeByte_blocked {s : State} {a : Addr} (v : Byte) (k : State → Result)
    (h : s.irBlocked a = true) : writeByte s a v k = .fault .huc1Ir := by simp [writeByte, h]

/-- A read that leads to a next state was not blocked. -/
theorem readByte_next {s t : State} {a : Addr} {k : Byte → Result} (h : readByte s a k = .next t) :
    s.irBlocked a = false ∧ k (s.busRead a) = .next t := by
  unfold readByte at h; split at h <;> simp_all

/-- A write that leads to a next state was not blocked. -/
theorem writeByte_next {s t : State} {a : Addr} {v : Byte} {k : State → Result}
    (h : writeByte s a v k = .next t) : s.irBlocked a = false ∧ k (s.busWrite a v) = .next t := by
  unfold writeByte at h; split at h <;> simp_all

/-! ## The infrared window (R97) -/

/-- The infrared window depends on the cartridge alone. -/
theorem irBlocked_congr {s t : State} (a : Addr) (h : t.cart = s.cart) : t.irBlocked a = s.irBlocked a := by
  simp only [State.irBlocked, h]

/-- A RAM-window write leaves HuC1's mode alone. -/
theorem infrared_cartRamWrite (c : Cartridge) (a : Addr) (v : Byte) :
    (cartRamWrite c a v).infrared = c.infrared := by
  simp only [cartRamWrite]
  split
  · rfl
  · split
    · rename_i r reg h
      simp only [Cartridge.rtcSelected] at h
      split at h
      · rename_i hm; simp [Cartridge.infrared, hm]
      · simp at h
    · rfl

/-- A write outside the controller windows leaves the infrared window where it was. -/
theorem irBlocked_busWrite {s : State} {a : Addr} (b : Addr) (v : Byte)
    (h : 0x7FFF < a.toNat ∨ b.toNat < 0xA000 ∨ 0xBFFF < b.toNat) :
    (s.busWrite a v).irBlocked b = s.irBlocked b := by
  simp only [State.busWrite]
  split
  · simp only [State.irBlocked]
    cases s.cart with
    | none => rfl
    | some c =>
      simp only [Option.map_some, cartWrite]
      split
      · have hb : ¬ (0xA000 ≤ b.toNat ∧ b.toNat ≤ 0xBFFF) := by omega
        rw [decide_eq_false hb]; rfl
      · simp only [infrared_cartRamWrite]
  · rfl
  · rfl
  · rfl

/-- The stack slot below a stored one is blocked after the store exactly if it was before. -/
theorem irBlocked_after_upper (s : State) (sp : Addr) (v : Byte) :
    (s.busWrite (sp + 1#16) v).irBlocked sp = s.irBlocked sp := by
  apply irBlocked_busWrite
  have h1 : (sp + 1#16).toNat = (sp.toNat + 1) % 65536 := by simp [BitVec.toNat_add]
  have h2 := sp.isLt
  omega

/-- The address above a stored one is blocked after the store exactly if it was before. -/
theorem irBlocked_after_lower (s : State) (a : Addr) (v : Byte) :
    (s.busWrite a v).irBlocked (a + 1#16) = s.irBlocked (a + 1#16) := by
  apply irBlocked_busWrite
  have h1 : (a + 1#16).toNat = (a.toNat + 1) % 65536 := by simp [BitVec.toNat_add]
  have h2 := a.isLt
  omega

/-! ## Words and the stack -/

theorem writeWord_free {s : State} {a : Addr} (w : Addr) (k : State → Result)
    (h0 : s.irBlocked a = false) (h1 : s.irBlocked (a + 1#16) = false) :
    writeWord s a w k = k ((s.busWrite a (lowByte w)).busWrite (a + 1#16) (highByte w)) := by
  rw [writeWord, writeByte_free _ _ h0, writeByte_free _ _ (by rw [irBlocked_after_lower]; exact h1)]

theorem writeWord_next {s t : State} {a w : Addr} {k : State → Result} (h : writeWord s a w k = .next t) :
    s.irBlocked a = false ∧ s.irBlocked (a + 1#16) = false
      ∧ k ((s.busWrite a (lowByte w)).busWrite (a + 1#16) (highByte w)) = .next t := by
  rw [writeWord] at h
  obtain ⟨h0, h⟩ := writeByte_next h
  obtain ⟨h1, h⟩ := writeByte_next h
  exact ⟨h0, by rwa [irBlocked_after_lower] at h1, h⟩

/-- The upper stack slot, from SP before a push. -/
theorem sp_upper (sp : Addr) : sp - 2#16 + 1#16 = sp - 1#16 := by bv_omega

/-- `Push` where neither stack slot is blocked (R143). -/
theorem push_free {s : State} (w : Addr) (k : State → Result) (h1 : s.irBlocked (s.sp - 1#16) = false)
    (h2 : s.irBlocked (s.sp - 2#16) = false) :
    push w s k = k ((State.busWrite { s with sp := s.sp - 2#16 } (s.sp - 1#16) (highByte w)).busWrite
      (s.sp - 2#16) (lowByte w)) := by
  have e1 : State.irBlocked { s with sp := s.sp - 2#16 } (s.sp - 2#16 + 1#16) = false := by
    rw [sp_upper]; exact h1
  have e2 : (State.busWrite { s with sp := s.sp - 2#16 } (s.sp - 2#16 + 1#16) (highByte w)).irBlocked
      (s.sp - 2#16) = false := by rw [irBlocked_after_upper]; exact h2
  simp only [push]
  rw [writeByte_free _ _ e1, writeByte_free _ _ e2, sp_upper]

/-- `Push` where a stack slot is blocked (R97). -/
theorem push_blocked {s : State} (w : Addr) (k : State → Result)
    (h : s.irBlocked (s.sp - 1#16) = true ∨ s.irBlocked (s.sp - 2#16) = true) : push w s k = .fault .huc1Ir := by
  simp only [push]
  cases ha : s.irBlocked (s.sp - 1#16) with
  | true => exact writeByte_blocked _ _ (by rw [sp_upper]; exact ha)
  | false =>
    rw [writeByte_free _ _ (by rw [sp_upper]; exact ha)]
    apply writeByte_blocked
    rw [irBlocked_after_upper]
    exact h.resolve_left (by simp [ha])

/-- A push that leads to a next state: neither slot was blocked. -/
theorem push_next {s t : State} {w : Addr} {k : State → Result} (h : push w s k = .next t) :
    s.irBlocked (s.sp - 1#16) = false ∧ s.irBlocked (s.sp - 2#16) = false
      ∧ k ((State.busWrite { s with sp := s.sp - 2#16 } (s.sp - 1#16) (highByte w)).busWrite
        (s.sp - 2#16) (lowByte w)) = .next t := by
  simp only [push] at h
  obtain ⟨h0, h⟩ := writeByte_next h
  obtain ⟨h1, h⟩ := writeByte_next h
  rw [irBlocked_after_upper] at h1
  rw [sp_upper] at h0 h
  exact ⟨h0, h1, h⟩

/-- `Pop` where neither stack slot is blocked (R144). -/
theorem pop_free {s : State} (k : Addr → State → Result) (h1 : s.irBlocked s.sp = false)
    (h2 : s.irBlocked (s.sp + 1#16) = false) :
    pop s k = k (pack (s.busRead s.sp) (s.busRead (s.sp + 1#16))) { s with sp := s.sp + 2#16 } := by
  rw [pop, readByte_free _ h1, readByte_free _ h2]

/-- A pop that leads to a next state: neither slot was blocked. -/
theorem pop_next {s t : State} {k : Addr → State → Result} (h : pop s k = .next t) :
    s.irBlocked s.sp = false ∧ s.irBlocked (s.sp + 1#16) = false
      ∧ k (pack (s.busRead s.sp) (s.busRead (s.sp + 1#16))) { s with sp := s.sp + 2#16 } = .next t := by
  rw [pop] at h
  obtain ⟨h0, h⟩ := readByte_next h
  obtain ⟨h1, h⟩ := readByte_next h
  exact ⟨h0, h1, h⟩

/-! ## The operand (HL) -/

theorem readHl_free {s : State} (k : Byte → Result) (h : s.irBlocked s.hl = false) :
    readHl s k = k (s.busRead s.hl) := readByte_free k h

theorem writeHl_free {s : State} (v : Byte) (k : State → Result) (h : s.irBlocked s.hl = false) :
    writeHl s v k = k (s.busWrite s.hl v) := writeByte_free v k h

theorem modifyHl_free {s : State} (f : Byte → Byte) (k : Byte → State → Result)
    (h : s.irBlocked s.hl = false) :
    modifyHl s f k = k (s.busRead s.hl) (s.busWrite s.hl (f (s.busRead s.hl))) := by
  rw [modifyHl, readHl_free _ h, writeHl_free _ _ h]

theorem readHl_next {s t : State} {k : Byte → Result} (h : readHl s k = .next t) :
    s.irBlocked s.hl = false ∧ k (s.busRead s.hl) = .next t := readByte_next h

theorem writeHl_next {s t : State} {v : Byte} {k : State → Result} (h : writeHl s v k = .next t) :
    s.irBlocked s.hl = false ∧ k (s.busWrite s.hl v) = .next t := writeByte_next h

theorem modifyHl_next {s t : State} {f : Byte → Byte} {k : Byte → State → Result}
    (h : modifyHl s f k = .next t) :
    s.irBlocked s.hl = false ∧ k (s.busRead s.hl) (s.busWrite s.hl (f (s.busRead s.hl))) = .next t := by
  obtain ⟨h0, h⟩ := readHl_next h
  exact ⟨h0, (writeHl_next h).2⟩

/-! ## The high page is never the infrared window -/

/-- The high-page address as a number (R110). -/
theorem highPage_toNat (n : Byte) : (highPage n).toNat = 0xFF00 + n.toNat := by
  have h := n.isLt
  simp only [highPage, zext16, BitVec.toNat_add, BitVec.toNat_setWidth, BitVec.toNat_ofNat]
  omega

theorem highPage_eq (n : Byte) : highPage n = BitVec.ofNat 16 (0xFF00 + n.toNat) := by
  apply BitVec.eq_of_toNat_eq
  have h := n.isLt
  rw [highPage_toNat, BitVec.toNat_ofNat]
  omega

theorem irBlocked_highPage (s : State) (n : Byte) : s.irBlocked (highPage n) = false := by
  simp only [State.irBlocked]
  split
  · rfl
  · rw [highPage_toNat, decide_eq_false (by omega)]; rfl

end Sys2Proof.Machine
end

