-- ==== Sys2Proof/Laws/Effect.lean ====
section
/-! SUPPORT. Everything a next state can be: a chain of core updates (registers, flags, control state,
CYCLES) and byte stores. Invariants of storage and of the cartridge follow by induction on it. -/

namespace Sys2Proof.Machine

/-- The state `t` is reached from `s` by core updates and byte stores. -/
inductive Changes : State → State → Prop where
  | core {s t : State} (hm : t.mem = s.mem) (hi : t.ie = s.ie) (hb : t.bootMapped = s.bootMapped)
      (hc : t.cart = s.cart) (hf : t.fault = s.fault) (hF : t.f &&& 0x0F#8 = 0#8 ∨ t.f = s.f) : Changes s t
  | store (s : State) (a : Addr) (v : Byte) : Changes s (s.busWrite a v)
  | trans {s t u : State} : Changes s t → Changes t u → Changes s u

/-- A byte store and then a core update. -/
theorem Changes.storeCore {s t : State} (a : Addr) (v : Byte) (h : Changes (s.busWrite a v) t) :
    Changes s t := .trans (.store s a v) h

/-- The two stores of a push and then a core update. -/
theorem Changes.pushCore {s t : State} (sp a b : Addr) (v w : Byte)
    (h : Changes ((State.busWrite { s with sp := sp } a v).busWrite b w) t) : Changes s t :=
  .trans (.core (t := { s with sp := sp }) rfl rfl rfl rfl rfl (.inr rfl)) (.storeCore a v (.storeCore b w h))

theorem setStackPair_flags (s : State) (q : StackPair) (w : Addr) :
    (s.setStackPair q w).f &&& 0x0F#8 = 0#8 ∨ (s.setStackPair q w).f = s.f := by
  cases q
  · exact .inr rfl
  · exact .inr rfl
  · exact .inr rfl
  · exact .inl (maskF_low _)

theorem aluApply_flags (s : State) (op : AluOp) (v : Byte) : (s.aluApply op v).f &&& 0x0F#8 = 0#8 := by
  cases op <;> exact packFlags_low ..

/-- A push that leads to a next state. -/
theorem push_changes {s t : State} {w : Addr} {k : State → Result} (h : push w s k = .next t)
    (hk : ∀ u v, k u = .next v → Changes u v) : Changes s t :=
  .pushCore _ _ _ _ _ (hk _ _ (push_next h).2.2)

/-- A pop that leads to a next state. -/
theorem pop_changes {s t : State} {k : Addr → State → Result} (h : pop s k = .next t)
    (hk : ∀ w u v, k w u = .next v → Changes u v) : Changes s t :=
  .trans (.core (t := { s with sp := s.sp + 2#16 }) rfl rfl rfl rfl rfl (.inr rfl)) (hk _ _ _ (pop_next h).2.2)

/-- A read-modify-write of the byte at HL that leads to a next state. -/
theorem modifyHl_changes {s t : State} {f : Byte → Byte} {k : Byte → State → Result}
    (h : modifyHl s f k = .next t) (hk : ∀ w u v, k w u = .next v → Changes u v) : Changes s t :=
  .storeCore _ _ (hk _ _ _ (modifyHl_next h).2)

/-- A store at HL that leads to a next state. -/
theorem writeByte_changes {s t : State} {a : Addr} {v : Byte} {k : State → Result}
    (h : writeByte s a v k = .next t) (hk : ∀ u v, k u = .next v → Changes u v) : Changes s t :=
  .storeCore _ _ (hk _ _ (writeByte_next h).2)

/-- Two stores of a word that lead to a next state. -/
theorem writeWord_changes {s t : State} {a w : Addr} {k : State → Result}
    (h : writeWord s a w k = .next t) (hk : ∀ u v, k u = .next v → Changes u v) : Changes s t :=
  .storeCore _ _ (.storeCore _ _ (hk _ _ (writeWord_next h).2.2))

/-- The next state of an outcome is one. -/
theorem next_inj {s t : State} (h : (Host.Outcome.next s : Result) = .next t) : t = s := by
  cases h; rfl

/-- CPU updates after the stores. -/
theorem changes_tick {u v : State} {n : Nat} (h : (Host.Outcome.next (u.tick n) : Result) = .next v) :
    Changes u v := by
  cases h; exact .core rfl rfl rfl rfl rfl (.inr rfl)

theorem exec_cb_changes {f : CbForm} {s t : State} (h : runCb f s = .next t) : Changes s t := by
  cases f <;> simp only [runCb, rotReg, rotHl, bitReg, bitHl, resReg, resHl, setReg, setHl] at h
  case rotReg | bitReg =>
    rw [next_inj h]; exact .core (by simp) (by simp) (by simp) (by simp) (by simp) (.inl (packFlags_low ..))
  case rotHl =>
    exact modifyHl_changes h (fun _ _ _ e => by
      rw [next_inj e]; exact .core rfl rfl rfl rfl rfl (.inl (packFlags_low ..)))
  case bitHl =>
    rw [next_inj (readHl_next h).2]; exact .core rfl rfl rfl rfl rfl (.inl (packFlags_low ..))
  case resReg | setReg =>
    rw [next_inj h]; exact .core (by simp) (by simp) (by simp) (by simp) (by simp) (.inr (by simp))
  case resHl | setHl => exact modifyHl_changes h (fun _ _ _ e => changes_tick e)

theorem loadA_changes {s t : State} {a : Addr} {n : Nat} (h : loadA a n s = .next t) : Changes s t := by
  rw [next_inj (readByte_next h).2]; exact .core rfl rfl rfl rfl rfl (.inr rfl)

theorem storeA_changes {s t : State} {a : Addr} {n : Nat} (h : storeA a n s = .next t) : Changes s t :=
  writeByte_changes h (fun _ _ e => changes_tick e)

theorem callTo_changes {s t : State} {a : Addr} {n : Nat} (h : callTo a n s = .next t) : Changes s t :=
  push_changes h (fun _ _ e => by rw [next_inj e]; exact .core rfl rfl rfl rfl rfl (.inr rfl))

theorem returnTo_changes {s t : State} {n : Nat} (h : returnTo n s = .next t) : Changes s t :=
  pop_changes h (fun _ _ _ e => by rw [next_inj e]; exact .core rfl rfl rfl rfl rfl (.inr rfl))

/-- Every next state of an instruction is reached by core updates and byte stores. -/
theorem exec_changes {i : Instr} {s t : State} (h : exec i s = .next t) : Changes s t := by
  rw [exec_form] at h
  cases hi : i.form <;> rw [hi] at h <;> simp only [execForm, ldHlReg, execLdAtHlN8, storeAHlStep, writeHl, execReti, interruptReturn] at h
  case ldRegReg | ldRegImm | ldPairImm | incPair | decPair =>
    rw [next_inj h]; exact .core (by simp) (by simp) (by simp) (by simp) (by simp) (.inr (by simp))
  case ldRegHl dst =>
    rw [next_inj (readHl_next h).2]; exact .core (by simp) (by simp) (by simp) (by simp) (by simp) (.inr (by simp))
  case ldHlReg | ldHlImm => exact writeByte_changes h (fun _ _ e => changes_tick e)
  case ldABc | ldADe | ldAAbs | ldAHigh | ldAHighC => exact loadA_changes h
  case ldBcA | ldDeA | ldAbsA | ldHighA | ldHighCA => exact storeA_changes h
  case ldHlIncA | ldHlDecA =>
    exact writeByte_changes h (fun _ _ e => by rw [next_inj e]; exact .core rfl rfl rfl rfl rfl (.inr rfl))
  case ldAHlInc | ldAHlDec =>
    rw [next_inj (readHl_next h).2]; exact .core rfl rfl rfl rfl rfl (.inr rfl)
  case ldAbsSp => exact writeWord_changes h (fun _ _ e => changes_tick e)
  case ldSpHl | jp | jpHl | jr | nop | stop | di | ei | undefined =>
    rw [next_inj h]; exact .core rfl rfl rfl rfl rfl (.inr rfl)
  case ldHlSpOff | daa | cpl | scf | ccf | addHl | addSp | rlca | rrca | rla | rra =>
    rw [next_inj h]; exact .core rfl rfl rfl rfl rfl (.inl (packFlags_low ..))
  case push => exact push_changes h (fun _ _ e => changes_tick e)
  case pop =>
    exact pop_changes h (fun _ _ _ e => by
      rw [next_inj e]; exact .core (by simp) (by simp) (by simp) (by simp) (by simp) (by simpa using setStackPair_flags ..))
  case aluReg | aluImm =>
    rw [next_inj h]
    exact .core (by simp) (by simp) (by simp) (by simp) (by simp) (.inl (by simpa using aluApply_flags ..))
  case aluHl =>
    rw [next_inj (readHl_next h).2]
    exact .core (by simp) (by simp) (by simp) (by simp) (by simp) (.inl (by simpa using aluApply_flags ..))
  case incReg | decReg =>
    rw [next_inj h]; exact .core (by simp) (by simp) (by simp) (by simp) (by simp) (.inl (packFlags_low ..))
  case incAtHl | decAtHl =>
    exact modifyHl_changes h (fun _ _ _ e => by rw [next_inj e]; exact .core rfl rfl rfl rfl rfl (.inl (packFlags_low ..)))
  case cb f => exact exec_cb_changes h
  case jpCond | jrCond =>
    simp only [jpCond, jrCond] at h
    split at h <;> rw [next_inj h] <;> exact .core rfl rfl rfl rfl rfl (.inr rfl)
  case call | rst => exact callTo_changes h
  case callCond cc n =>
    simp only [callCond] at h
    split at h
    · exact callTo_changes h
    · exact changes_tick h
  case ret => exact returnTo_changes h
  case retCond cc =>
    simp only [retCond] at h
    split at h
    · exact returnTo_changes h
    · exact changes_tick h
  case reti =>
    exact pop_changes h (fun _ _ _ e => by rw [next_inj e]; exact .core rfl rfl rfl rfl rfl (.inr rfl))
  case halt =>
    simp only [execHalt] at h
    split at h
    · cases h
    · rw [next_inj h]; exact .core rfl rfl rfl rfl rfl (.inr rfl)

/-- A dispatch that leads to a next state is reached by core updates and byte stores. -/
theorem dispatch_changes {s t : State} (h : dispatch s = .next t) : Changes s t := by
  simp only [dispatch] at h
  split at h
  · cases h
  · have hs : State.clearRequest (lowestSource s.pend) s
        = s.busWrite 0xFF0F#16 (s.ifReg &&& ~~~(1#8 <<< lowestSource s.pend)) := rfl
    refine .storeCore 0xFF0F#16 (s.ifReg &&& ~~~(1#8 <<< lowestSource s.pend)) ?_
    rw [← hs]
    refine .trans (.core (t := { State.clearRequest (lowestSource s.pend) s with
      ime := false, imePending := false }) rfl rfl rfl rfl rfl (.inr rfl)) ?_
    exact push_changes h (fun _ _ e => by rw [next_inj e]; exact .core rfl rfl rfl rfl rfl (.inr rfl))

end Sys2Proof.Machine
end

