-- ==== Sys2Proof/Laws/Step.lean ====
section
/-! SUPPORT. What a fetch reads, everything a step can do, and when an instruction or a dispatch stops. -/

namespace Sys2Proof.Machine

/-! ## Fetch -/

/-- The three bytes at PC and after it. -/
def bytesAt (s : State) : List Byte := [s.busRead s.pc, s.busRead (s.pc + 1#16), s.busRead (s.pc + 2#16)]

/-- The decoder on three bytes (R102, R119). -/
theorem decode_three (b0 b1 b2 : Byte) :
    decode [b0, b1, b2] =
      if instrLength b0 = 1 then .ok (decodeParts b0 0#8 0#8, [b1, b2])
      else if instrLength b0 = 2 then .ok (decodeParts b0 b1 0#8, [b2])
      else .ok (decodeParts b0 b1 b2, []) := rfl

theorem fetchByte_ok {s : State} {a : Addr} {b : Byte} :
    fetchByte s a = .ok b ↔ s.irBlocked a = false ∧ b = s.busRead a := by
  cases h : s.irBlocked a
  · simp only [fetchByte, h, Bool.false_eq_true, if_false, Except.ok.injEq, true_and]
    exact eq_comm
  · simp [fetchByte, h]

theorem fetchByte_free {s : State} {a : Addr} (h : s.irBlocked a = false) :
    fetchByte s a = .ok (s.busRead a) := fetchByte_ok.mpr ⟨h, rfl⟩

/-- A fetch that succeeds reads the instruction its bytes decode to, none of them blocked. -/
theorem fetch_ok {s : State} {i : Instr} {len : Nat} (h : fetch s = .ok (i, len)) :
    ∃ rest, decode (bytesAt s) = .ok (i, rest) ∧ len = 3 - rest.length
      ∧ ∀ k, k < len → s.irBlocked (s.pc + BitVec.ofNat 16 k) = false := by
  unfold fetch at h
  split at h
  · cases h
  · rename_i b0 h0
    obtain ⟨f0, rfl⟩ := fetchByte_ok.mp h0
    have g0 : s.irBlocked (s.pc + BitVec.ofNat 16 0) = false := by simpa using f0
    simp only [bytesAt, decode_three]
    split at h
    · rename_i hl
      cases h
      refine ⟨_, by simp [hl]; rfl, rfl, ?_⟩
      intro k hk; obtain rfl : k = 0 := by omega
      exact g0
    · rename_i hl1
      split at h
      · cases h
      · rename_i b1 h1
        obtain ⟨f1, rfl⟩ := fetchByte_ok.mp h1
        split at h
        · rename_i hl
          cases h
          refine ⟨_, by simp [hl]; rfl, rfl, ?_⟩
          intro k hk
          rcases k with _ | _ | k
          · exact g0
          · exact f1
          · omega
        · rename_i hl2
          split at h
          · cases h
          · rename_i b2 h2
            obtain ⟨f2, rfl⟩ := fetchByte_ok.mp h2
            cases h
            refine ⟨_, by simp [hl1, hl2]; rfl, rfl, ?_⟩
            intro k hk
            rcases k with _ | _ | _ | k
            · exact g0
            · exact f1
            · exact f2
            · omega

/-- Where the bytes at PC decode and none of the instruction's own is blocked, the fetch succeeds. -/
theorem fetch_free {s : State} {i : Instr} {rest : List Byte} (h : decode (bytesAt s) = .ok (i, rest))
    (hf : ∀ k, k < 3 - rest.length → s.irBlocked (s.pc + BitVec.ofNat 16 k) = false) :
    fetch s = .ok (i, 3 - rest.length) := by
  simp only [bytesAt, decode_three] at h
  unfold fetch
  split at h
  · rename_i hl
    simp only [Except.ok.injEq, Prod.mk.injEq] at h
    obtain ⟨rfl, rfl⟩ := h
    have f0 := hf 0 (by simp)
    simp only [BitVec.add_zero] at f0
    simp [fetchByte_free f0, hl]
  · split at h
    · rename_i hl
      simp only [Except.ok.injEq, Prod.mk.injEq] at h
      obtain ⟨rfl, rfl⟩ := h
      have f0 := hf 0 (by simp)
      simp only [BitVec.add_zero] at f0
      simp [fetchByte_free f0, hl, fetchByte_free (hf 1 (by simp))]
    · rename_i hl1 hl2
      simp only [Except.ok.injEq, Prod.mk.injEq] at h
      obtain ⟨rfl, rfl⟩ := h
      have f0 := hf 0 (by simp)
      simp only [BitVec.add_zero] at f0
      simp [fetchByte_free f0, hl1, hl2, fetchByte_free (hf 1 (by simp)), fetchByte_free (hf 2 (by simp))]

/-- Where a byte of the instruction at PC is blocked, so is the fetch (R97). -/
theorem fetch_blocked {s : State} {k : Nat} (hk : k < instrLength (s.busRead s.pc))
    (hb : s.irBlocked (s.pc + BitVec.ofNat 16 k) = true) : fetch s = .error .huc1Ir := by
  have blocked : ∀ a, s.irBlocked a = true → fetchByte s a = .error .huc1Ir := fun a h => by simp [fetchByte, h]
  unfold fetch
  cases h0 : s.irBlocked s.pc with
  | true => rw [blocked _ h0]
  | false =>
    rw [fetchByte_free h0]
    have hk0 : k ≠ 0 := by rintro rfl; rw [show s.pc + BitVec.ofNat 16 0 = s.pc by simp, h0] at hb; cases hb
    have hl := instrLength_cases (s.busRead s.pc)
    simp only [if_neg (show ¬ instrLength (s.busRead s.pc) = 1 by omega)]
    cases h1 : s.irBlocked (s.pc + 1#16) with
    | true => rw [blocked _ h1]
    | false =>
      rw [fetchByte_free h1]
      have hk1 : k ≠ 1 := by rintro rfl; rw [h1] at hb; cases hb
      obtain rfl : k = 2 := by omega
      simp only [if_neg (show ¬ instrLength (s.busRead s.pc) = 2 by omega)]
      rw [blocked _ hb]

/-! ## The step -/

/-- Everything a step that answers a next state can have done (R230). -/
theorem step_cases {s t : State} (h : step s = .next t) :
    s.fault = none ∧
    ((∃ f, stepMode exec s = .fault f ∧ t = { s with fault := some f })
    ∨ ((s.mode = .locked ∨ s.mode = .stopped) ∧ t = s.tick 4)
    ∨ (s.mode = .halted ∧ t = stepHalted s)
    ∨ (s.mode = .running ∧ s.ime = true ∧ s.pend ≠ 0#8 ∧ dispatch s = .next t)
    ∨ (s.mode = .running ∧ ¬ (s.ime = true ∧ s.pend ≠ 0#8) ∧ ∃ i len u, fetch s = .ok (i, len)
        ∧ exec i (s.advance len) = .next u ∧ t = u.enableAfter s.imePending)) := by
  unfold step stepWith at h
  split at h
  · cases h
  · rename_i hf
    refine ⟨hf, ?_⟩
    unfold markFault at h
    split at h
    · rename_i f hm
      exact .inl ⟨f, hm, next_inj h⟩
    · rename_i u hm
      obtain rfl := next_inj h
      refine .inr ?_
      unfold stepMode at hm
      split at hm
      · rename_i hmode; exact .inl ⟨.inl hmode, next_inj hm⟩
      · rename_i hmode; exact .inl ⟨.inr hmode, next_inj hm⟩
      · rename_i hmode; exact .inr (.inl ⟨hmode, next_inj hm⟩)
      · rename_i hmode
        refine .inr (.inr ?_)
        unfold stepRunning at hm
        split at hm
        · rename_i hd; exact .inl ⟨hmode, hd.1, hd.2, hm⟩
        · rename_i hd
          refine .inr ⟨hmode, hd, ?_⟩
          unfold executeNext at hm
          split at hm
          · cases hm
          · rename_i i len hfetch
            unfold afterInstr at hm
            split at hm
            · rename_i u hx; exact ⟨i, len, u, hfetch, hx, next_inj hm⟩
            · cases hm
            · cases hm
    · cases h

/-- A step reaches its next state by core updates and byte stores, or marks a model fault. -/
theorem step_changes {s t : State} (h : step s = .next t) :
    (∃ f, t = { s with fault := some f }) ∨ Changes s t := by
  obtain ⟨_, ⟨f, _, rfl⟩ | ⟨_, rfl⟩ | ⟨_, rfl⟩ | ⟨_, _, _, hd⟩ | ⟨_, _, i, len, u, _, hx, rfl⟩⟩ := step_cases h
  · exact .inl ⟨f, rfl⟩
  · exact .inr (.core rfl rfl rfl rfl rfl (.inr rfl))
  · refine .inr ?_
    unfold stepHalted
    split <;> exact .core rfl rfl rfl rfl rfl (.inr rfl)
  · exact .inr (dispatch_changes hd)
  · refine .inr (.trans (.core (t := s.advance len) rfl rfl rfl rfl rfl (.inr rfl)) (.trans (exec_changes hx) ?_))
    exact .core (by simp) (by simp) (by simp) (by simp) (by simp) (.inr (by simp))

/-! ## No refusal -/

/-- A read refuses only if what follows does. -/
theorem readByte_ne_refused {s : State} {a : Addr} {k : Byte → Result} {r : Refusal}
    (hk : ∀ v, k v ≠ .refused r) : readByte s a k ≠ .refused r := by
  unfold readByte; split
  · simp
  · exact hk _

/-- A write refuses only if what follows does. -/
theorem writeByte_ne_refused {s : State} {a : Addr} {v : Byte} {k : State → Result} {r : Refusal}
    (hk : ∀ t, k t ≠ .refused r) : writeByte s a v k ≠ .refused r := by
  unfold writeByte; split
  · simp
  · exact hk _

theorem push_ne_refused {s : State} {w : Addr} {k : State → Result} {r : Refusal}
    (hk : ∀ t, k t ≠ .refused r) : push w s k ≠ .refused r := by
  unfold push
  apply writeByte_ne_refused; intro t
  apply writeByte_ne_refused; exact hk

theorem pop_ne_refused {s : State} {k : Addr → State → Result} {r : Refusal}
    (hk : ∀ w t, k w t ≠ .refused r) : pop s k ≠ .refused r := by
  unfold pop
  apply readByte_ne_refused; intro v
  apply readByte_ne_refused; intro w
  exact hk _ _

theorem modifyHl_ne_refused {s : State} {f : Byte → Byte} {k : Byte → State → Result} {r : Refusal}
    (hk : ∀ w t, k w t ≠ .refused r) : modifyHl s f k ≠ .refused r := by
  unfold modifyHl readHl writeHl
  apply readByte_ne_refused; intro v
  apply writeByte_ne_refused; intro t
  exact hk _ _

theorem runCb_ne_refused (f : CbForm) (s : State) (r : Refusal) : runCb f s ≠ .refused r := by
  cases f <;> simp only [runCb, rotReg, rotHl, bitReg, bitHl, resReg, resHl, setReg, setHl, readHl]
  case rotReg | bitReg | resReg | setReg => simp
  case rotHl | resHl | setHl => apply modifyHl_ne_refused; simp
  case bitHl => apply readByte_ne_refused; simp

/-- No instruction is refused. -/
theorem exec_ne_refused (i : Instr) (s : State) (r : Refusal) : exec i s ≠ .refused r := by
  rw [exec_form]
  cases i.form <;> simp only [execForm, ldHlReg, execLdAtHlN8, storeAHlStep, loadAHlStep, ldRegHl, loadA, storeA,
    aluHl, readHl, writeHl, execReti, interruptReturn, execLdAtN16Sp, writeWord, execIncAtHl, execDecAtHl, callTo,
    returnTo, pushPair, popPair, rst, execCallN16, execRet, jpCond, jrCond, callCond, retCond, execHalt]
  case ldRegHl | ldABc | ldADe | ldAAbs | ldAHigh | ldAHighC | ldAHlInc | ldAHlDec | aluHl =>
    apply readByte_ne_refused; simp
  case ldHlReg | ldHlImm | ldBcA | ldDeA | ldAbsA | ldHighA | ldHighCA | ldHlIncA | ldHlDecA =>
    apply writeByte_ne_refused; simp
  case ldAbsSp =>
    apply writeByte_ne_refused; intro t
    apply writeByte_ne_refused; simp
  case push | call | rst => apply push_ne_refused; simp
  case pop | ret | reti => apply pop_ne_refused; simp
  case incAtHl | decAtHl => apply modifyHl_ne_refused; simp
  case cb f => exact runCb_ne_refused f s r
  case jpCond | jrCond | halt => split <;> simp
  case callCond =>
    split
    · apply push_ne_refused; simp
    · simp
  case retCond =>
    split
    · apply pop_ne_refused; simp
    · simp
  all_goals simp [ldRegReg, ldRegImm, ldPairImm, execLdSpHl, execLdHlSpE8, aluReg, aluImm, incReg, decReg,
    execDaa, execCpl, execScf, execCcf, addHl, incPair, decPair, execAddSpE8, rotA, execJpN16, execJpHl,
    execJrE8, execNop, execStop, execDi, execEi, lockUp]

theorem dispatch_ne_refused (s : State) (r : Refusal) : dispatch s ≠ .refused r := by
  simp only [dispatch]; split
  · simp
  · apply push_ne_refused; simp

/-- A step from an unmarked state has a next state (R230, R236). -/
theorem step_total {s : State} (h : s.fault = none) : ∃ t, step s = .next t := by
  unfold step stepWith
  simp only [h, markFault]
  split
  · exact ⟨_, rfl⟩
  · exact ⟨_, rfl⟩
  · rename_i r hm
    exfalso
    unfold stepMode at hm
    split at hm <;> try simp at hm
    unfold stepRunning at hm
    split at hm
    · exact dispatch_ne_refused _ _ hm
    · unfold executeNext at hm
      split at hm
      · simp at hm
      · unfold afterInstr at hm
        split at hm <;> simp at hm
        rename_i hx
        exact exec_ne_refused _ _ _ hx

end Sys2Proof.Machine
end

