-- ==== Sys2Proof/Laws/Invariant.lean ====
section
/-! SUPPORT. The invariant of the state under a byte store, under a chain of changes and under a load and a
reset; and what no change touches. -/

namespace Sys2Proof.Machine

/-- The parts of the invariant. -/
theorem wf_iff (s : State) : s.wf = true ↔
    s.f &&& 0x0F#8 = 0#8 ∧ s.mem.wf = true ∧ keysStored s.mem = true ∧ ∀ c, s.cart = some c → cartWf c = true := by
  simp only [State.wf, State.flagsWf, Bool.and_eq_true, beq_iff_eq, and_assoc]
  cases s.cart <;> simp

/-- The storage an address answers with exists (R34). -/
theorem isKey_of_backing {a : Addr} {k : Nat} (h : backing a = .store k) : Memory.isKey k = true := by
  have hlt := a.isLt
  have hk : (0x8000 ≤ k ∧ k ≤ 0x9FFF) ∨ (0xC000 ≤ k ∧ k ≤ 0xDFFF) ∨ (0xFE00 ≤ k ∧ k ≤ 0xFE9F)
      ∨ (0xFF00 ≤ k ∧ k ≤ 0xFFFE) := by
    unfold backing at h
    dsimp only at h
    split at h
    · cases h
    split at h
    · have := Backing.store.inj h; omega
    split at h
    · cases h
    split at h
    · have := Backing.store.inj h; omega
    split at h
    · have := Backing.store.inj h; omega
    split at h
    · have := Backing.store.inj h; omega
    split at h
    · cases h
    split at h
    · have := Backing.store.inj h; omega
    · cases h
  simp only [Memory.isKey, Bool.or_eq_true, decide_eq_true_eq]
  omega

/-- A byte store keeps the invariant. -/
theorem wf_busWrite {s : State} (a : Addr) (v : Byte) (h : s.wf = true) : (s.busWrite a v).wf = true := by
  rw [wf_iff] at h ⊢
  obtain ⟨h1, h2, h3, h4⟩ := h
  refine ⟨by simpa using h1, ?_⟩
  unfold State.busWrite
  split
  · refine ⟨h2, h3, ?_⟩
    intro c hc
    simp only [Option.map_eq_some_iff] at hc
    obtain ⟨d, hd, rfl⟩ := hc
    exact cartWf_cartWrite _ _ (h4 d hd)
  · rename_i k hk
    exact ⟨Memory.wf_write _ _ h2, keysStored_write _ h3 (isKey_of_backing hk), h4⟩
  · exact ⟨h2, h3, h4⟩
  · exact ⟨h2, h3, h4⟩

/-- A chain of changes keeps the invariant. -/
theorem Changes.wf {s t : State} (h : Changes s t) (hs : s.wf = true) : t.wf = true := by
  induction h with
  | core hm hi hb hc hf hF =>
    rw [wf_iff] at hs ⊢
    obtain ⟨h1, h2, h3, h4⟩ := hs
    refine ⟨?_, by rw [hm]; exact h2, by rw [hm]; exact h3, by rw [hc]; exact h4⟩
    rcases hF with hF | hF
    · exact hF
    · rw [hF]; exact h1
  | store s a v => exact wf_busWrite a v hs
  | trans _ _ ih1 ih2 => exact ih2 (ih1 hs)

/-- A chain of changes keeps FAULT. -/
theorem Changes.fault {s t : State} (h : Changes s t) : t.fault = s.fault := by
  induction h with
  | core hm hi hb hc hf hF => exact hf
  | store s a v => simp
  | trans _ _ ih1 ih2 => rw [ih2, ih1]

/-- A chain of changes never maps the boot ROM (R63). -/
theorem Changes.boot {s t : State} (h : Changes s t) : t.bootMapped = true → s.bootMapped = true := by
  induction h with
  | core hm hi hb hc hf hF => rw [hb]; exact id
  | store s a v =>
    unfold State.busWrite State.bootAfterWrite
    split <;> try exact id
    dsimp only
    split
    · simp
    · exact id
  | trans _ _ ih1 ih2 => exact fun h => ih1 (ih2 h)

/-- What is fixed in a cartridge: its image, header, features and kind. -/
def identityOf (c : Cartridge) : RomImage × Header × Features × ControllerKind :=
  (c.rom, c.header, c.features, c.mbc.kind)

/-- A chain of changes keeps what is fixed in the cartridge, and loads and unloads none. -/
theorem Changes.identity {s t : State} (h : Changes s t) :
    t.cart.map identityOf = s.cart.map identityOf := by
  induction h with
  | core hm hi hb hc hf hF => rw [hc]
  | store s a v =>
    unfold State.busWrite
    split <;> try rfl
    dsimp only
    cases s.cart with
    | none => rfl
    | some c =>
      obtain ⟨h1, h2, h3, h4⟩ := identity_cartWrite c a v
      simp [identityOf, h1, h2, h3, h4]
  | trans _ _ ih1 ih2 => rw [ih2, ih1]

/-! ## Loads and resets -/

/-- The images of a reset are canonical and list only bytes that exist (R34, R48). -/
theorem initMemory_wf (init : InitMem) :
    (initMemory init).wf = true ∧ keysStored (initMemory init) = true := by
  have put : ∀ (m : Memory) (base size : Nat) (bytes : List Byte),
      (∀ j, base ≤ j → j < base + size → Memory.isKey j = true) → m.wf = true ∧ keysStored m = true →
      Memory.wf (writeBytes Memory.unlisted m base (bytes.take size)) = true
        ∧ keysStored (writeBytes Memory.unlisted m base (bytes.take size)) = true := by
    intro m base size bytes hk hm
    refine ⟨cellsWf_writeBytes _ _ _ _ hm.1, all_writeBytes _ _ _ _ _ hm.2 ?_⟩
    intro j v h1 h2 _
    simp only [List.length_take] at h2
    exact hk j h1 (by omega)
  unfold initMemory
  dsimp only
  refine put _ _ _ _ ?_ (put _ _ _ _ ?_ (put _ _ _ _ ?_ (put _ _ _ _ ?_ (put _ _ _ _ ?_ ⟨rfl, rfl⟩))))
  all_goals
    intro j h1 h2
    simp only [Memory.isKey, Bool.or_eq_true, decide_eq_true_eq]
    omega

/-- The reset of a well-formed cartridge is well formed (R255). -/
theorem cartWf_reset {c : Cartridge} (init : CartInit) (h : cartWf c = true) :
    cartWf (cartReset init c) = true := by
  rw [cartWf_iff] at h
  exact cartWf_cartReset init h.1 h.2.1 h.2.2.1 h.2.2.2.1 h.2.2.2.2.1

/-- A reset leaves the invariant, in both configurations. -/
theorem wf_hostReset (boot : Bool) (init : InitMem) {s : State} (h : s.wf = true) :
    (hostReset boot init s).wf = true := by
  rw [wf_iff] at h ⊢
  refine ⟨?_, (initMemory_wf init).1, (initMemory_wf init).2, ?_⟩
  · cases boot <;> simp [hostReset, State.reset, State.withBootRegs]
  · intro c hc
    simp only [hostReset, Option.map_eq_some_iff] at hc
    obtain ⟨d, hd, rfl⟩ := hc
    exact cartWf_reset _ (h.2.2.2 d hd)

end Sys2Proof.Machine
end

