-- ==== Sys2Proof/Tests/Slice0.lean ====
section
/-! SUPPORT. Tests of the model: what WellFormed refuses, every row's word written out, one step of each
rule by the vectors of spec/95_test_vectors.md, the cartridge, interrupt and reset vectors of that file, and
states and operands that meet the hypotheses of the statements. -/

namespace Sys2Proof.Tests

open Sys2Proof Sys2Proof.Machine Sys2Proof.Claims

/-! ## Helpers -/

/-- The instruction that these bytes are, no byte left. -/
def decoded (bytes : List Byte) : Option Instr :=
  match decode bytes with
  | .ok (i, []) => some i
  | .ok (_, _ :: _) => none
  | .error _ => none

/-- Bytes of storage at addresses. -/
def withBytes (cells : List (Addr × Byte)) (s : State) : State :=
  { s with mem := cells.foldl (fun m cell => Memory.write m cell.1.toNat cell.2) s.mem }

/-- Cells from an address on. -/
def cellsFrom (addr : Addr) (bytes : List Byte) : List (Addr × Byte) :=
  match bytes with
  | [] => []
  | v :: rest => (addr, v) :: cellsFrom (addr + 1#16) rest

/-- The start state of the vectors: the registers after reset, the bytes at 0xC100, IF 0x00. -/
def prog (bytes : List Byte) : State :=
  withBytes ((0xFF0F#16, 0x00#8) :: cellsFrom 0xC100#16 bytes) { State.reset with pc := 0xC100#16 }

/-- What a step leaves, seen through `f`. -/
def after {α : Type} (s : State) (f : State → α) : Option α :=
  match step s with
  | .next t => some (f t)
  | .fault _ => none
  | .refused _ => none

/-- A state with a cartridge of this controller and these features. -/
def withCart (m : Mbc) (features : Features) (ramCode : Byte) (s : State) : State :=
  { s with cart := some { blankCartridge with
      mbc := m, features := features, header := { blankHeader with ramSizeCode := ramCode } } }

/-- RAM and nothing else. -/
def ramOnly : Features := { ram := true, battery := false, rtc := false, rumble := false }

/-- A clock and RAM. -/
def ramAndClock : Features := { ram := true, battery := true, rtc := true, rumble := false }

/-- A HuC1 cartridge in infrared mode (R97). -/
def infraredState : State :=
  withCart (.huc1 { ramg := false, irmode := true, romb := 1#6, ramb := 0#2 }) ramOnly 0x03#8 (prog [])

/-! ## WellFormed -/

/-- The row PREFIX CB is no instruction of its own (R116). -/
theorem test_prefix_ill_formed : (Instr.prefixCb 0x37#8).wellFormed = false := by decide

/-- The instruction its byte 1 selects is one. -/
theorem test_swap_well_formed : Instr.swapA.wellFormed = true ∧ decoded [0xCB#8, 0x37#8] = some .swapA := by decide

/-- A truncated instruction is refused by name. -/
theorem test_truncated : decoded [] = none ∧ decoded [0xCB#8] = none ∧ decoded [0x21#8, 0x34#8] = none := by decide

/-- The words of the table: a prefixed row has its first byte in the upper half. -/
theorem test_table_words :
    decodeTableWord 8 0x76 = some .halt ∧ decodeTableWord 16 0xCB37 = some .swapA
      ∧ decodeTableWord 16 0x3E = some (.ldAN8 0x00#8) ∧ decodeTableWord 24 0x1234C3 = some (.jpN16 0x1234#16) := by
  decide

/-- A placed word runs as the first instruction after reset. -/
theorem test_placed_word :
    after (State.reset.withFetchWord 16 0xCB37) (fun t => (t.a, t.pc, t.cycles)) = some (0x10#8, 0x0102#16, 8) := by
  decide

/-! ## Decoding: every row of the table, its word written out bit by bit (R101 to R229) -/

/-- The rows 0x00 to 0x0F. -/
theorem test_decode_0x :
    ([[0b00000000#8], [0b00000001#8, 0x34#8, 0x12#8], [0b00000010#8], [0b00000011#8], [0b00000100#8],
      [0b00000101#8], [0b00000110#8, 0x5A#8], [0b00000111#8], [0b00001000#8, 0x34#8, 0x12#8],
      [0b00001001#8], [0b00001010#8], [0b00001011#8], [0b00001100#8], [0b00001101#8],
      [0b00001110#8, 0x5A#8], [0b00001111#8]] : List (List Byte)).map decoded =
    [some .nop, some (.ldBcN16 0x1234#16), some .ldAtBcA, some .incBc, some .incB, some .decB,
      some (.ldBN8 0x5A#8), some .rlca, some (.ldAtN16Sp 0x1234#16), some .addHlBc, some .ldAAtBc,
      some .decBc, some .incC, some .decC, some (.ldCN8 0x5A#8), some .rrca] := by decide

/-- The rows 0x10 to 0x1F. -/
theorem test_decode_1x :
    ([[0b00010000#8, 0x5A#8], [0b00010001#8, 0x34#8, 0x12#8], [0b00010010#8], [0b00010011#8],
      [0b00010100#8], [0b00010101#8], [0b00010110#8, 0x5A#8], [0b00010111#8], [0b00011000#8, 0x5A#8],
      [0b00011001#8], [0b00011010#8], [0b00011011#8], [0b00011100#8], [0b00011101#8],
      [0b00011110#8, 0x5A#8], [0b00011111#8]] : List (List Byte)).map decoded =
    [some (.stop 0x5A#8), some (.ldDeN16 0x1234#16), some .ldAtDeA, some .incDe, some .incD, some .decD,
      some (.ldDN8 0x5A#8), some .rla, some (.jrE8 0x5A#8), some .addHlDe, some .ldAAtDe, some .decDe,
      some .incE, some .decE, some (.ldEN8 0x5A#8), some .rra] := by decide

/-- The rows 0x20 to 0x2F. -/
theorem test_decode_2x :
    ([[0b00100000#8, 0x5A#8], [0b00100001#8, 0x34#8, 0x12#8], [0b00100010#8], [0b00100011#8],
      [0b00100100#8], [0b00100101#8], [0b00100110#8, 0x5A#8], [0b00100111#8], [0b00101000#8, 0x5A#8],
      [0b00101001#8], [0b00101010#8], [0b00101011#8], [0b00101100#8], [0b00101101#8],
      [0b00101110#8, 0x5A#8], [0b00101111#8]] : List (List Byte)).map decoded =
    [some (.jrNzE8 0x5A#8), some (.ldHlN16 0x1234#16), some .ldAtHlIncA, some .incHl, some .incH,
      some .decH, some (.ldHN8 0x5A#8), some .daa, some (.jrZE8 0x5A#8), some .addHlHl, some .ldAAtHlInc,
      some .decHl, some .incL, some .decL, some (.ldLN8 0x5A#8), some .cpl] := by decide

/-- The rows 0x30 to 0x3F. -/
theorem test_decode_3x :
    ([[0b00110000#8, 0x5A#8], [0b00110001#8, 0x34#8, 0x12#8], [0b00110010#8], [0b00110011#8],
      [0b00110100#8], [0b00110101#8], [0b00110110#8, 0x5A#8], [0b00110111#8], [0b00111000#8, 0x5A#8],
      [0b00111001#8], [0b00111010#8], [0b00111011#8], [0b00111100#8], [0b00111101#8],
      [0b00111110#8, 0x5A#8], [0b00111111#8]] : List (List Byte)).map decoded =
    [some (.jrNcE8 0x5A#8), some (.ldSpN16 0x1234#16), some .ldAtHlDecA, some .incSp, some .incAtHl,
      some .decAtHl, some (.ldAtHlN8 0x5A#8), some .scf, some (.jrCE8 0x5A#8), some .addHlSp,
      some .ldAAtHlDec, some .decSp, some .incA, some .decA, some (.ldAN8 0x5A#8), some .ccf] := by decide

/-- The rows 0x40 to 0x4F. -/
theorem test_decode_4x :
    ([[0b01000000#8], [0b01000001#8], [0b01000010#8], [0b01000011#8], [0b01000100#8], [0b01000101#8],
      [0b01000110#8], [0b01000111#8], [0b01001000#8], [0b01001001#8], [0b01001010#8], [0b01001011#8],
      [0b01001100#8], [0b01001101#8], [0b01001110#8], [0b01001111#8]] : List (List Byte)).map decoded =
    [some .ldBB, some .ldBC, some .ldBD, some .ldBE, some .ldBH, some .ldBL, some .ldBAtHl, some .ldBA,
      some .ldCB, some .ldCC, some .ldCD, some .ldCE, some .ldCH, some .ldCL, some .ldCAtHl, some .ldCA] := by decide

/-- The rows 0x50 to 0x5F. -/
theorem test_decode_5x :
    ([[0b01010000#8], [0b01010001#8], [0b01010010#8], [0b01010011#8], [0b01010100#8], [0b01010101#8],
      [0b01010110#8], [0b01010111#8], [0b01011000#8], [0b01011001#8], [0b01011010#8], [0b01011011#8],
      [0b01011100#8], [0b01011101#8], [0b01011110#8], [0b01011111#8]] : List (List Byte)).map decoded =
    [some .ldDB, some .ldDC, some .ldDD, some .ldDE, some .ldDH, some .ldDL, some .ldDAtHl, some .ldDA,
      some .ldEB, some .ldEC, some .ldED, some .ldEE, some .ldEH, some .ldEL, some .ldEAtHl, some .ldEA] := by decide

/-- The rows 0x60 to 0x6F. -/
theorem test_decode_6x :
    ([[0b01100000#8], [0b01100001#8], [0b01100010#8], [0b01100011#8], [0b01100100#8], [0b01100101#8],
      [0b01100110#8], [0b01100111#8], [0b01101000#8], [0b01101001#8], [0b01101010#8], [0b01101011#8],
      [0b01101100#8], [0b01101101#8], [0b01101110#8], [0b01101111#8]] : List (List Byte)).map decoded =
    [some .ldHB, some .ldHC, some .ldHD, some .ldHE, some .ldHH, some .ldHL, some .ldHAtHl, some .ldHA,
      some .ldLB, some .ldLC, some .ldLD, some .ldLE, some .ldLH, some .ldLL, some .ldLAtHl, some .ldLA] := by decide

/-- The rows 0x70 to 0x7F. -/
theorem test_decode_7x :
    ([[0b01110000#8], [0b01110001#8], [0b01110010#8], [0b01110011#8], [0b01110100#8], [0b01110101#8],
      [0b01110110#8], [0b01110111#8], [0b01111000#8], [0b01111001#8], [0b01111010#8], [0b01111011#8],
      [0b01111100#8], [0b01111101#8], [0b01111110#8], [0b01111111#8]] : List (List Byte)).map decoded =
    [some .ldAtHlB, some .ldAtHlC, some .ldAtHlD, some .ldAtHlE, some .ldAtHlH, some .ldAtHlL,
      some .halt, some .ldAtHlA, some .ldAB, some .ldAC, some .ldAD, some .ldAE, some .ldAH, some .ldAL,
      some .ldAAtHl, some .ldAA] := by decide

/-- The rows 0x80 to 0x8F. -/
theorem test_decode_8x :
    ([[0b10000000#8], [0b10000001#8], [0b10000010#8], [0b10000011#8], [0b10000100#8], [0b10000101#8],
      [0b10000110#8], [0b10000111#8], [0b10001000#8], [0b10001001#8], [0b10001010#8], [0b10001011#8],
      [0b10001100#8], [0b10001101#8], [0b10001110#8], [0b10001111#8]] : List (List Byte)).map decoded =
    [some .addAB, some .addAC, some .addAD, some .addAE, some .addAH, some .addAL, some .addAAtHl,
      some .addAA, some .adcAB, some .adcAC, some .adcAD, some .adcAE, some .adcAH, some .adcAL,
      some .adcAAtHl, some .adcAA] := by decide

/-- The rows 0x90 to 0x9F. -/
theorem test_decode_9x :
    ([[0b10010000#8], [0b10010001#8], [0b10010010#8], [0b10010011#8], [0b10010100#8], [0b10010101#8],
      [0b10010110#8], [0b10010111#8], [0b10011000#8], [0b10011001#8], [0b10011010#8], [0b10011011#8],
      [0b10011100#8], [0b10011101#8], [0b10011110#8], [0b10011111#8]] : List (List Byte)).map decoded =
    [some .subB, some .subC, some .subD, some .subE, some .subH, some .subL, some .subAtHl, some .subA,
      some .sbcAB, some .sbcAC, some .sbcAD, some .sbcAE, some .sbcAH, some .sbcAL, some .sbcAAtHl,
      some .sbcAA] := by decide

/-- The rows 0xA0 to 0xAF. -/
theorem test_decode_Ax :
    ([[0b10100000#8], [0b10100001#8], [0b10100010#8], [0b10100011#8], [0b10100100#8], [0b10100101#8],
      [0b10100110#8], [0b10100111#8], [0b10101000#8], [0b10101001#8], [0b10101010#8], [0b10101011#8],
      [0b10101100#8], [0b10101101#8], [0b10101110#8], [0b10101111#8]] : List (List Byte)).map decoded =
    [some .andB, some .andC, some .andD, some .andE, some .andH, some .andL, some .andAtHl, some .andA,
      some .xorB, some .xorC, some .xorD, some .xorE, some .xorH, some .xorL, some .xorAtHl, some .xorA] := by decide

/-- The rows 0xB0 to 0xBF. -/
theorem test_decode_Bx :
    ([[0b10110000#8], [0b10110001#8], [0b10110010#8], [0b10110011#8], [0b10110100#8], [0b10110101#8],
      [0b10110110#8], [0b10110111#8], [0b10111000#8], [0b10111001#8], [0b10111010#8], [0b10111011#8],
      [0b10111100#8], [0b10111101#8], [0b10111110#8], [0b10111111#8]] : List (List Byte)).map decoded =
    [some .orB, some .orC, some .orD, some .orE, some .orH, some .orL, some .orAtHl, some .orA,
      some .cpB, some .cpC, some .cpD, some .cpE, some .cpH, some .cpL, some .cpAtHl, some .cpA] := by decide

/-- The rows 0xC0 to 0xCF. -/
theorem test_decode_Cx :
    ([[0b11000000#8], [0b11000001#8], [0b11000010#8, 0x34#8, 0x12#8], [0b11000011#8, 0x34#8, 0x12#8],
      [0b11000100#8, 0x34#8, 0x12#8], [0b11000101#8], [0b11000110#8, 0x5A#8], [0b11000111#8],
      [0b11001000#8], [0b11001001#8], [0b11001010#8, 0x34#8, 0x12#8], [0b11001011#8, 0b01011010#8],
      [0b11001100#8, 0x34#8, 0x12#8], [0b11001101#8, 0x34#8, 0x12#8], [0b11001110#8, 0x5A#8],
      [0b11001111#8]] : List (List Byte)).map decoded =
    [some .retNz, some .popBc, some (.jpNzN16 0x1234#16), some (.jpN16 0x1234#16),
      some (.callNzN16 0x1234#16), some .pushBc, some (.addAN8 0x5A#8), some .rst00, some .retZ,
      some .ret, some (.jpZN16 0x1234#16), some .bit3D, some (.callZN16 0x1234#16),
      some (.callN16 0x1234#16), some (.adcAN8 0x5A#8), some .rst08] := by decide

/-- The rows 0xD0 to 0xDF. -/
theorem test_decode_Dx :
    ([[0b11010000#8], [0b11010001#8], [0b11010010#8, 0x34#8, 0x12#8], [0b11010011#8],
      [0b11010100#8, 0x34#8, 0x12#8], [0b11010101#8], [0b11010110#8, 0x5A#8], [0b11010111#8],
      [0b11011000#8], [0b11011001#8], [0b11011010#8, 0x34#8, 0x12#8], [0b11011011#8],
      [0b11011100#8, 0x34#8, 0x12#8], [0b11011101#8], [0b11011110#8, 0x5A#8], [0b11011111#8]] : List (List Byte)).map decoded =
    [some .retNc, some .popDe, some (.jpNcN16 0x1234#16), some .undefD3, some (.callNcN16 0x1234#16),
      some .pushDe, some (.subN8 0x5A#8), some .rst10, some .retC, some .reti, some (.jpCN16 0x1234#16),
      some .undefDB, some (.callCN16 0x1234#16), some .undefDD, some (.sbcAN8 0x5A#8), some .rst18] := by decide

/-- The rows 0xE0 to 0xEF. -/
theorem test_decode_Ex :
    ([[0b11100000#8, 0x5A#8], [0b11100001#8], [0b11100010#8], [0b11100011#8], [0b11100100#8],
      [0b11100101#8], [0b11100110#8, 0x5A#8], [0b11100111#8], [0b11101000#8, 0x5A#8], [0b11101001#8],
      [0b11101010#8, 0x34#8, 0x12#8], [0b11101011#8], [0b11101100#8], [0b11101101#8],
      [0b11101110#8, 0x5A#8], [0b11101111#8]] : List (List Byte)).map decoded =
    [some (.ldhAtA8A 0x5A#8), some .popHl, some .ldAtCA, some .undefE3, some .undefE4, some .pushHl,
      some (.andN8 0x5A#8), some .rst20, some (.addSpE8 0x5A#8), some .jpHl, some (.ldAtN16A 0x1234#16),
      some .undefEB, some .undefEC, some .undefED, some (.xorN8 0x5A#8), some .rst28] := by decide

/-- The rows 0xF0 to 0xFF. -/
theorem test_decode_Fx :
    ([[0b11110000#8, 0x5A#8], [0b11110001#8], [0b11110010#8], [0b11110011#8], [0b11110100#8],
      [0b11110101#8], [0b11110110#8, 0x5A#8], [0b11110111#8], [0b11111000#8, 0x5A#8], [0b11111001#8],
      [0b11111010#8, 0x34#8, 0x12#8], [0b11111011#8], [0b11111100#8], [0b11111101#8],
      [0b11111110#8, 0x5A#8], [0b11111111#8]] : List (List Byte)).map decoded =
    [some (.ldhAAtA8 0x5A#8), some .popAf, some .ldAAtC, some .di, some .undefF4, some .pushAf,
      some (.orN8 0x5A#8), some .rst30, some (.ldHlSpE8 0x5A#8), some .ldSpHl,
      some (.ldAAtN16 0x1234#16), some .ei, some .undefFC, some .undefFD, some (.cpN8 0x5A#8), some .rst38] := by decide

/-- The prefixed rows 0xCB 00 to 0xCB 0F. -/
theorem test_decode_cb_0x :
    ([0b00000000#8, 0b00000001#8, 0b00000010#8, 0b00000011#8, 0b00000100#8, 0b00000101#8, 0b00000110#8,
      0b00000111#8, 0b00001000#8, 0b00001001#8, 0b00001010#8, 0b00001011#8, 0b00001100#8, 0b00001101#8,
      0b00001110#8, 0b00001111#8] : List Byte).map (fun b => decoded [0b11001011#8, b]) =
    [some .rlcB, some .rlcC, some .rlcD, some .rlcE, some .rlcH, some .rlcL, some .rlcAtHl, some .rlcA,
      some .rrcB, some .rrcC, some .rrcD, some .rrcE, some .rrcH, some .rrcL, some .rrcAtHl, some .rrcA] := by decide

/-- The prefixed rows 0xCB 10 to 0xCB 1F. -/
theorem test_decode_cb_1x :
    ([0b00010000#8, 0b00010001#8, 0b00010010#8, 0b00010011#8, 0b00010100#8, 0b00010101#8, 0b00010110#8,
      0b00010111#8, 0b00011000#8, 0b00011001#8, 0b00011010#8, 0b00011011#8, 0b00011100#8, 0b00011101#8,
      0b00011110#8, 0b00011111#8] : List Byte).map (fun b => decoded [0b11001011#8, b]) =
    [some .rlB, some .rlC, some .rlD, some .rlE, some .rlH, some .rlL, some .rlAtHl, some .rlA,
      some .rrB, some .rrC, some .rrD, some .rrE, some .rrH, some .rrL, some .rrAtHl, some .rrA] := by decide

/-- The prefixed rows 0xCB 20 to 0xCB 2F. -/
theorem test_decode_cb_2x :
    ([0b00100000#8, 0b00100001#8, 0b00100010#8, 0b00100011#8, 0b00100100#8, 0b00100101#8, 0b00100110#8,
      0b00100111#8, 0b00101000#8, 0b00101001#8, 0b00101010#8, 0b00101011#8, 0b00101100#8, 0b00101101#8,
      0b00101110#8, 0b00101111#8] : List Byte).map (fun b => decoded [0b11001011#8, b]) =
    [some .slaB, some .slaC, some .slaD, some .slaE, some .slaH, some .slaL, some .slaAtHl, some .slaA,
      some .sraB, some .sraC, some .sraD, some .sraE, some .sraH, some .sraL, some .sraAtHl, some .sraA] := by decide

/-- The prefixed rows 0xCB 30 to 0xCB 3F. -/
theorem test_decode_cb_3x :
    ([0b00110000#8, 0b00110001#8, 0b00110010#8, 0b00110011#8, 0b00110100#8, 0b00110101#8, 0b00110110#8,
      0b00110111#8, 0b00111000#8, 0b00111001#8, 0b00111010#8, 0b00111011#8, 0b00111100#8, 0b00111101#8,
      0b00111110#8, 0b00111111#8] : List Byte).map (fun b => decoded [0b11001011#8, b]) =
    [some .swapB, some .swapC, some .swapD, some .swapE, some .swapH, some .swapL, some .swapAtHl,
      some .swapA, some .srlB, some .srlC, some .srlD, some .srlE, some .srlH, some .srlL, some .srlAtHl,
      some .srlA] := by decide

/-- The prefixed rows 0xCB 40 to 0xCB 4F. -/
theorem test_decode_cb_4x :
    ([0b01000000#8, 0b01000001#8, 0b01000010#8, 0b01000011#8, 0b01000100#8, 0b01000101#8, 0b01000110#8,
      0b01000111#8, 0b01001000#8, 0b01001001#8, 0b01001010#8, 0b01001011#8, 0b01001100#8, 0b01001101#8,
      0b01001110#8, 0b01001111#8] : List Byte).map (fun b => decoded [0b11001011#8, b]) =
    [some .bit0B, some .bit0C, some .bit0D, some .bit0E, some .bit0H, some .bit0L, some .bit0AtHl,
      some .bit0A, some .bit1B, some .bit1C, some .bit1D, some .bit1E, some .bit1H, some .bit1L,
      some .bit1AtHl, some .bit1A] := by decide

/-- The prefixed rows 0xCB 50 to 0xCB 5F. -/
theorem test_decode_cb_5x :
    ([0b01010000#8, 0b01010001#8, 0b01010010#8, 0b01010011#8, 0b01010100#8, 0b01010101#8, 0b01010110#8,
      0b01010111#8, 0b01011000#8, 0b01011001#8, 0b01011010#8, 0b01011011#8, 0b01011100#8, 0b01011101#8,
      0b01011110#8, 0b01011111#8] : List Byte).map (fun b => decoded [0b11001011#8, b]) =
    [some .bit2B, some .bit2C, some .bit2D, some .bit2E, some .bit2H, some .bit2L, some .bit2AtHl,
      some .bit2A, some .bit3B, some .bit3C, some .bit3D, some .bit3E, some .bit3H, some .bit3L,
      some .bit3AtHl, some .bit3A] := by decide

/-- The prefixed rows 0xCB 60 to 0xCB 6F. -/
theorem test_decode_cb_6x :
    ([0b01100000#8, 0b01100001#8, 0b01100010#8, 0b01100011#8, 0b01100100#8, 0b01100101#8, 0b01100110#8,
      0b01100111#8, 0b01101000#8, 0b01101001#8, 0b01101010#8, 0b01101011#8, 0b01101100#8, 0b01101101#8,
      0b01101110#8, 0b01101111#8] : List Byte).map (fun b => decoded [0b11001011#8, b]) =
    [some .bit4B, some .bit4C, some .bit4D, some .bit4E, some .bit4H, some .bit4L, some .bit4AtHl,
      some .bit4A, some .bit5B, some .bit5C, some .bit5D, some .bit5E, some .bit5H, some .bit5L,
      some .bit5AtHl, some .bit5A] := by decide

/-- The prefixed rows 0xCB 70 to 0xCB 7F. -/
theorem test_decode_cb_7x :
    ([0b01110000#8, 0b01110001#8, 0b01110010#8, 0b01110011#8, 0b01110100#8, 0b01110101#8, 0b01110110#8,
      0b01110111#8, 0b01111000#8, 0b01111001#8, 0b01111010#8, 0b01111011#8, 0b01111100#8, 0b01111101#8,
      0b01111110#8, 0b01111111#8] : List Byte).map (fun b => decoded [0b11001011#8, b]) =
    [some .bit6B, some .bit6C, some .bit6D, some .bit6E, some .bit6H, some .bit6L, some .bit6AtHl,
      some .bit6A, some .bit7B, some .bit7C, some .bit7D, some .bit7E, some .bit7H, some .bit7L,
      some .bit7AtHl, some .bit7A] := by decide

/-- The prefixed rows 0xCB 80 to 0xCB 8F. -/
theorem test_decode_cb_8x :
    ([0b10000000#8, 0b10000001#8, 0b10000010#8, 0b10000011#8, 0b10000100#8, 0b10000101#8, 0b10000110#8,
      0b10000111#8, 0b10001000#8, 0b10001001#8, 0b10001010#8, 0b10001011#8, 0b10001100#8, 0b10001101#8,
      0b10001110#8, 0b10001111#8] : List Byte).map (fun b => decoded [0b11001011#8, b]) =
    [some .res0B, some .res0C, some .res0D, some .res0E, some .res0H, some .res0L, some .res0AtHl,
      some .res0A, some .res1B, some .res1C, some .res1D, some .res1E, some .res1H, some .res1L,
      some .res1AtHl, some .res1A] := by decide

/-- The prefixed rows 0xCB 90 to 0xCB 9F. -/
theorem test_decode_cb_9x :
    ([0b10010000#8, 0b10010001#8, 0b10010010#8, 0b10010011#8, 0b10010100#8, 0b10010101#8, 0b10010110#8,
      0b10010111#8, 0b10011000#8, 0b10011001#8, 0b10011010#8, 0b10011011#8, 0b10011100#8, 0b10011101#8,
      0b10011110#8, 0b10011111#8] : List Byte).map (fun b => decoded [0b11001011#8, b]) =
    [some .res2B, some .res2C, some .res2D, some .res2E, some .res2H, some .res2L, some .res2AtHl,
      some .res2A, some .res3B, some .res3C, some .res3D, some .res3E, some .res3H, some .res3L,
      some .res3AtHl, some .res3A] := by decide

/-- The prefixed rows 0xCB A0 to 0xCB AF. -/
theorem test_decode_cb_Ax :
    ([0b10100000#8, 0b10100001#8, 0b10100010#8, 0b10100011#8, 0b10100100#8, 0b10100101#8, 0b10100110#8,
      0b10100111#8, 0b10101000#8, 0b10101001#8, 0b10101010#8, 0b10101011#8, 0b10101100#8, 0b10101101#8,
      0b10101110#8, 0b10101111#8] : List Byte).map (fun b => decoded [0b11001011#8, b]) =
    [some .res4B, some .res4C, some .res4D, some .res4E, some .res4H, some .res4L, some .res4AtHl,
      some .res4A, some .res5B, some .res5C, some .res5D, some .res5E, some .res5H, some .res5L,
      some .res5AtHl, some .res5A] := by decide

/-- The prefixed rows 0xCB B0 to 0xCB BF. -/
theorem test_decode_cb_Bx :
    ([0b10110000#8, 0b10110001#8, 0b10110010#8, 0b10110011#8, 0b10110100#8, 0b10110101#8, 0b10110110#8,
      0b10110111#8, 0b10111000#8, 0b10111001#8, 0b10111010#8, 0b10111011#8, 0b10111100#8, 0b10111101#8,
      0b10111110#8, 0b10111111#8] : List Byte).map (fun b => decoded [0b11001011#8, b]) =
    [some .res6B, some .res6C, some .res6D, some .res6E, some .res6H, some .res6L, some .res6AtHl,
      some .res6A, some .res7B, some .res7C, some .res7D, some .res7E, some .res7H, some .res7L,
      some .res7AtHl, some .res7A] := by decide

/-- The prefixed rows 0xCB C0 to 0xCB CF. -/
theorem test_decode_cb_Cx :
    ([0b11000000#8, 0b11000001#8, 0b11000010#8, 0b11000011#8, 0b11000100#8, 0b11000101#8, 0b11000110#8,
      0b11000111#8, 0b11001000#8, 0b11001001#8, 0b11001010#8, 0b11001011#8, 0b11001100#8, 0b11001101#8,
      0b11001110#8, 0b11001111#8] : List Byte).map (fun b => decoded [0b11001011#8, b]) =
    [some .set0B, some .set0C, some .set0D, some .set0E, some .set0H, some .set0L, some .set0AtHl,
      some .set0A, some .set1B, some .set1C, some .set1D, some .set1E, some .set1H, some .set1L,
      some .set1AtHl, some .set1A] := by decide

/-- The prefixed rows 0xCB D0 to 0xCB DF. -/
theorem test_decode_cb_Dx :
    ([0b11010000#8, 0b11010001#8, 0b11010010#8, 0b11010011#8, 0b11010100#8, 0b11010101#8, 0b11010110#8,
      0b11010111#8, 0b11011000#8, 0b11011001#8, 0b11011010#8, 0b11011011#8, 0b11011100#8, 0b11011101#8,
      0b11011110#8, 0b11011111#8] : List Byte).map (fun b => decoded [0b11001011#8, b]) =
    [some .set2B, some .set2C, some .set2D, some .set2E, some .set2H, some .set2L, some .set2AtHl,
      some .set2A, some .set3B, some .set3C, some .set3D, some .set3E, some .set3H, some .set3L,
      some .set3AtHl, some .set3A] := by decide

/-- The prefixed rows 0xCB E0 to 0xCB EF. -/
theorem test_decode_cb_Ex :
    ([0b11100000#8, 0b11100001#8, 0b11100010#8, 0b11100011#8, 0b11100100#8, 0b11100101#8, 0b11100110#8,
      0b11100111#8, 0b11101000#8, 0b11101001#8, 0b11101010#8, 0b11101011#8, 0b11101100#8, 0b11101101#8,
      0b11101110#8, 0b11101111#8] : List Byte).map (fun b => decoded [0b11001011#8, b]) =
    [some .set4B, some .set4C, some .set4D, some .set4E, some .set4H, some .set4L, some .set4AtHl,
      some .set4A, some .set5B, some .set5C, some .set5D, some .set5E, some .set5H, some .set5L,
      some .set5AtHl, some .set5A] := by decide

/-- The prefixed rows 0xCB F0 to 0xCB FF. -/
theorem test_decode_cb_Fx :
    ([0b11110000#8, 0b11110001#8, 0b11110010#8, 0b11110011#8, 0b11110100#8, 0b11110101#8, 0b11110110#8,
      0b11110111#8, 0b11111000#8, 0b11111001#8, 0b11111010#8, 0b11111011#8, 0b11111100#8, 0b11111101#8,
      0b11111110#8, 0b11111111#8] : List Byte).map (fun b => decoded [0b11001011#8, b]) =
    [some .set6B, some .set6C, some .set6D, some .set6E, some .set6H, some .set6L, some .set6AtHl,
      some .set6A, some .set7B, some .set7C, some .set7D, some .set7E, some .set7H, some .set7L,
      some .set7AtHl, some .set7A] := by decide

/-! ## One step: vectors of spec/95_test_vectors.md, at most two a rule -/

/-- `41` LD B,C (R124). -/
theorem test_r124 :
    after { prog [0x41#8] with c := 0x5A#8, f := 0x00#8 }
      (fun t => (t.b, t.pc, t.f, t.cycles)) =
    some (0x5A#8, 0xC101#16, 0x00#8, 4) := by decide

/-- `06 77` LD B,0x77 (R125). -/
theorem test_r125 :
    after { prog [0x06#8, 0x77#8] with f := 0x00#8 }
      (fun t => (t.b, t.pc, t.f, t.cycles)) =
    some (0x77#8, 0xC102#16, 0x00#8, 8) := by decide

/-- `7E` LD A,(HL) (R126). -/
theorem test_r126 :
    after { withBytes [(0xC000#16, 0x99#8)] (prog [0x7E#8]) with h := 0xC0#8, l := 0x00#8, f := 0x00#8 }
      (fun t => (t.a, t.pc, t.f, t.cycles)) =
    some (0x99#8, 0xC101#16, 0x00#8, 8) := by decide

/-- `70` LD (HL),B (R127). -/
theorem test_r127 :
    after { prog [0x70#8] with h := 0xC0#8, l := 0x00#8, b := 0x12#8, f := 0x00#8 }
      (fun t => (t.pc, t.f, t.busRead 0xC000#16, t.cycles)) =
    some (0xC101#16, 0x00#8, 0x12#8, 8) := by decide

/-- `36 AB` LD (HL),0xAB (R128). -/
theorem test_r128 :
    after { prog [0x36#8, 0xAB#8] with h := 0xFF#8, l := 0x80#8, f := 0x00#8 }
      (fun t => (t.pc, t.f, t.busRead 0xFF80#16, t.cycles)) =
    some (0xC102#16, 0x00#8, 0xAB#8, 12) := by decide

/-- `0A` LD A,(BC) (R129). -/
theorem test_r129 :
    after { withBytes [(0xC005#16, 0x42#8)] (prog [0x0A#8]) with b := 0xE0#8, c := 0x05#8, f := 0x00#8 }
      (fun t => (t.a, t.pc, t.f, t.cycles)) =
    some (0x42#8, 0xC101#16, 0x00#8, 8) := by decide

/-- `02` LD (BC),A (R131). -/
theorem test_r131 :
    after { prog [0x02#8] with a := 0x5C#8, b := 0xC0#8, c := 0x10#8, f := 0x00#8 }
      (fun t => (t.a, t.pc, t.f, t.busRead 0xC010#16, t.cycles)) =
    some (0x5C#8, 0xC101#16, 0x00#8, 0x5C#8, 8) := by decide

/-- `1A` LD A,(DE) (R130). -/
theorem test_r130 :
    after { prog [0x1A#8] with d := 0xFF#8, e := 0xFF#8, f := 0x00#8, ie := 0x1F#8 }
      (fun t => (t.a, t.pc, t.f, t.cycles)) =
    some (0x1F#8, 0xC101#16, 0x00#8, 8) := by decide

/-- `12` LD (DE),A (R132). -/
theorem test_r132 :
    after { prog [0x12#8] with a := 0x07#8, d := 0xFF#8, e := 0x0F#8, f := 0x00#8 }
      (fun t => (t.a, t.pc, t.f, t.busRead 0xFF0F#16, t.cycles)) =
    some (0x07#8, 0xC101#16, 0x00#8, 0x07#8, 8) := by decide

/-- `22` LD (HL+),A (R133). -/
theorem test_r133 :
    after { prog [0x22#8] with a := 0x01#8, h := 0xFF#8, l := 0xFF#8, f := 0x00#8 }
      (fun t => (t.h, t.l, t.pc, t.f, t.busRead 0xFFFF#16, t.cycles)) =
    some (0x00#8, 0x00#8, 0xC101#16, 0x00#8, 0x01#8, 8) := by decide

/-- `32` LD (HL-),A (R134). -/
theorem test_r134 :
    after { prog [0x32#8] with a := 0x66#8, h := 0xC0#8, l := 0x00#8, f := 0x00#8 }
      (fun t => (t.h, t.l, t.pc, t.f, t.busRead 0xC000#16, t.cycles)) =
    some (0xBF#8, 0xFF#8, 0xC101#16, 0x00#8, 0x66#8, 8) := by decide

/-- `2A` LD A,(HL+) (R135). -/
theorem test_r135 :
    after { withBytes [(0xC0FF#16, 0x12#8)] (prog [0x2A#8]) with h := 0xC0#8, l := 0xFF#8, f := 0x00#8 }
      (fun t => (t.a, t.h, t.l, t.pc, t.f, t.cycles)) =
    some (0x12#8, 0xC1#8, 0x00#8, 0xC101#16, 0x00#8, 8) := by decide

/-- `3A` LD A,(HL-) (R136). -/
theorem test_r136 :
    after { withBytes [(0xC000#16, 0x34#8)] (prog [0x3A#8]) with h := 0xC0#8, l := 0x00#8, f := 0x00#8 }
      (fun t => (t.a, t.h, t.l, t.pc, t.f, t.cycles)) =
    some (0x34#8, 0xBF#8, 0xFF#8, 0xC101#16, 0x00#8, 8) := by decide

/-- `FA 00 C0` LD A,(0xC000) (R137). -/
theorem test_r137 :
    after { withBytes [(0xC000#16, 0xA5#8)] (prog [0xFA#8, 0x00#8, 0xC0#8]) with f := 0x00#8 }
      (fun t => (t.a, t.pc, t.f, t.cycles)) =
    some (0xA5#8, 0xC103#16, 0x00#8, 16) := by decide

/-- `EA 10 C0` LD (0xC010),A (R138). -/
theorem test_r138 :
    after { prog [0xEA#8, 0x10#8, 0xC0#8] with a := 0x3C#8, f := 0x00#8 }
      (fun t => (t.a, t.pc, t.f, t.busRead 0xC010#16, t.cycles)) =
    some (0x3C#8, 0xC103#16, 0x00#8, 0x3C#8, 16) := by decide

/-- `F0 80` LDH A,(0x80) (R139). -/
theorem test_r139 :
    after { withBytes [(0xFF80#16, 0x3C#8)] (prog [0xF0#8, 0x80#8]) with f := 0x00#8 }
      (fun t => (t.a, t.pc, t.f, t.cycles)) =
    some (0x3C#8, 0xC102#16, 0x00#8, 12) := by decide

/-- `E0 FF` LDH (0xFF),A (R140). -/
theorem test_r140 :
    after { prog [0xE0#8, 0xFF#8] with a := 0x04#8, f := 0x00#8 }
      (fun t => (t.a, t.pc, t.f, t.busRead 0xFFFF#16, t.cycles)) =
    some (0x04#8, 0xC102#16, 0x00#8, 0x04#8, 12) := by decide

/-- `F2` LD A,(C) (R141). -/
theorem test_r141 :
    after { withBytes [(0xFF0F#16, 0x02#8)] (prog [0xF2#8]) with c := 0x0F#8, f := 0x00#8 }
      (fun t => (t.a, t.pc, t.f, t.cycles)) =
    some (0x02#8, 0xC101#16, 0x00#8, 8) := by decide

/-- `E2` LD (C),A (R142). -/
theorem test_r142 :
    after { prog [0xE2#8] with a := 0xE1#8, c := 0x81#8, f := 0x00#8 }
      (fun t => (t.a, t.pc, t.f, t.busRead 0xFF81#16, t.cycles)) =
    some (0xE1#8, 0xC101#16, 0x00#8, 0xE1#8, 8) := by decide

/-- `01 34 12` LD BC,0x1234 (R145). -/
theorem test_r145 :
    after { prog [0x01#8, 0x34#8, 0x12#8] with f := 0x00#8 }
      (fun t => (t.b, t.c, t.pc, t.f, t.cycles)) =
    some (0x12#8, 0x34#8, 0xC103#16, 0x00#8, 12) := by decide

/-- `08 00 C0` LD (0xC000),SP (R146). -/
theorem test_r146 :
    after { prog [0x08#8, 0x00#8, 0xC0#8] with sp := 0xFFF8#16, f := 0x00#8 }
      (fun t => (t.pc, t.f, t.busRead 0xC000#16, t.busRead 0xC001#16, t.cycles)) =
    some (0xC103#16, 0x00#8, 0xF8#8, 0xFF#8, 20) := by decide

/-- `F9` LD SP,HL (R147). -/
theorem test_r147 :
    after { prog [0xF9#8] with h := 0xDF#8, l := 0xF0#8, sp := 0xFFFE#16, f := 0x00#8 }
      (fun t => (t.sp, t.pc, t.f, t.cycles)) =
    some (0xDFF0#16, 0xC101#16, 0x00#8, 8) := by decide

/-- `F8 02` LD HL,SP+2 (R148). -/
theorem test_r148 :
    after { prog [0xF8#8, 0x02#8] with sp := 0xFFF8#16, f := 0x00#8 }
      (fun t => (t.h, t.l, t.pc, t.f, t.cycles)) =
    some (0xFF#8, 0xFA#8, 0xC102#16, 0x00#8, 12) := by decide

/-- `F8 FF` LD HL,SP-1 (R148). -/
theorem test_r148_b :
    after { prog [0xF8#8, 0xFF#8] with sp := 0x0001#16, f := 0x00#8 }
      (fun t => (t.h, t.l, t.pc, t.f, t.cycles)) =
    some (0x00#8, 0x00#8, 0xC102#16, 0x30#8, 12) := by decide

/-- `C5` PUSH BC (R149). -/
theorem test_r149 :
    after { prog [0xC5#8] with b := 0x12#8, c := 0x34#8, sp := 0xFFFE#16, f := 0x00#8 }
      (fun t => (t.sp, t.pc, t.f, t.busRead 0xFFFC#16, t.busRead 0xFFFD#16, t.cycles)) =
    some (0xFFFC#16, 0xC101#16, 0x00#8, 0x34#8, 0x12#8, 16) := by decide

/-- `F1` POP AF (R150). -/
theorem test_r150 :
    after { withBytes [(0xC00E#16, 0xFF#8), (0xC00F#16, 0x12#8)] (prog [0xF1#8]) with sp := 0xC00E#16, f := 0x00#8 }
      (fun t => (t.a, t.sp, t.pc, t.f, t.cycles)) =
    some (0x12#8, 0xC010#16, 0xC101#16, 0xF0#8, 12) := by decide

/-- `80` ADD A,B (R151). -/
theorem test_r151 :
    after { prog [0x80#8] with a := 0x3A#8, b := 0xC6#8, f := 0x00#8 }
      (fun t => (t.a, t.pc, t.f, t.cycles)) =
    some (0x00#8, 0xC101#16, 0xB0#8, 4) := by decide

/-- `86` ADD A,(HL) (R152). -/
theorem test_r152 :
    after { withBytes [(0xC000#16, 0x34#8)] (prog [0x86#8]) with a := 0x12#8, h := 0xC0#8, l := 0x00#8, f := 0x00#8 }
      (fun t => (t.a, t.pc, t.f, t.cycles)) =
    some (0x46#8, 0xC101#16, 0x00#8, 8) := by decide

/-- `C6 FF` ADD A,0xFF (R153). -/
theorem test_r153 :
    after { prog [0xC6#8, 0xFF#8] with a := 0x01#8, f := 0x00#8 }
      (fun t => (t.a, t.pc, t.f, t.cycles)) =
    some (0x00#8, 0xC102#16, 0xB0#8, 8) := by decide

/-- `88` ADC A,B (R154). -/
theorem test_r154 :
    after { prog [0x88#8] with a := 0xE1#8, b := 0x0F#8, f := 0x10#8 }
      (fun t => (t.a, t.pc, t.f, t.cycles)) =
    some (0xF1#8, 0xC101#16, 0x20#8, 4) := by decide

/-- `CE FF` ADC A,0xFF (R156). -/
theorem test_r156 :
    after { prog [0xCE#8, 0xFF#8] with a := 0x00#8, f := 0x10#8 }
      (fun t => (t.a, t.pc, t.f, t.cycles)) =
    some (0x00#8, 0xC102#16, 0xB0#8, 8) := by decide

/-- `8F` ADC A,A (R154). -/
theorem test_r154_b :
    after { prog [0x8F#8] with a := 0x88#8, f := 0x10#8 }
      (fun t => (t.a, t.pc, t.f, t.cycles)) =
    some (0x11#8, 0xC101#16, 0x30#8, 4) := by decide

/-- `90` SUB B (R157). -/
theorem test_r157 :
    after { prog [0x90#8] with a := 0x3E#8, b := 0x3E#8, f := 0x00#8 }
      (fun t => (t.a, t.pc, t.f, t.cycles)) =
    some (0x00#8, 0xC101#16, 0xC0#8, 4) := by decide

/-- `D6 0F` SUB 0x0F (R159). -/
theorem test_r159 :
    after { prog [0xD6#8, 0x0F#8] with a := 0x10#8, f := 0x00#8 }
      (fun t => (t.a, t.pc, t.f, t.cycles)) =
    some (0x01#8, 0xC102#16, 0x60#8, 8) := by decide

/-- `98` SBC A,B (R160). -/
theorem test_r160 :
    after { prog [0x98#8] with a := 0x3B#8, b := 0x2A#8, f := 0x10#8 }
      (fun t => (t.a, t.pc, t.f, t.cycles)) =
    some (0x10#8, 0xC101#16, 0x40#8, 4) := by decide

/-- `DE 01` SBC A,0x01 (R162). -/
theorem test_r162 :
    after { prog [0xDE#8, 0x01#8] with a := 0x00#8, f := 0x10#8 }
      (fun t => (t.a, t.pc, t.f, t.cycles)) =
    some (0xFE#8, 0xC102#16, 0x70#8, 8) := by decide

/-- `9F` SBC A,A (R160). -/
theorem test_r160_b :
    after { prog [0x9F#8] with a := 0x47#8, f := 0x10#8 }
      (fun t => (t.a, t.pc, t.f, t.cycles)) =
    some (0xFF#8, 0xC101#16, 0x70#8, 4) := by decide

/-- `A0` AND B (R163). -/
theorem test_r163 :
    after { prog [0xA0#8] with a := 0x5A#8, b := 0x3F#8, f := 0x00#8 }
      (fun t => (t.a, t.pc, t.f, t.cycles)) =
    some (0x1A#8, 0xC101#16, 0x20#8, 4) := by decide

/-- `E6 00` AND 0x00 (R165). -/
theorem test_r165 :
    after { prog [0xE6#8, 0x00#8] with a := 0xFF#8, f := 0x10#8 }
      (fun t => (t.a, t.pc, t.f, t.cycles)) =
    some (0x00#8, 0xC102#16, 0xA0#8, 8) := by decide

/-- `AF` XOR A (R166). -/
theorem test_r166 :
    after { prog [0xAF#8] with a := 0x5A#8, f := 0x70#8 }
      (fun t => (t.a, t.pc, t.f, t.cycles)) =
    some (0x00#8, 0xC101#16, 0x80#8, 4) := by decide

/-- `B0` OR B (R169). -/
theorem test_r169 :
    after { prog [0xB0#8] with a := 0x00#8, b := 0x00#8, f := 0x70#8 }
      (fun t => (t.a, t.pc, t.f, t.cycles)) =
    some (0x00#8, 0xC101#16, 0x80#8, 4) := by decide

/-- `F6 5A` OR 0x5A (R171). -/
theorem test_r171 :
    after { prog [0xF6#8, 0x5A#8] with a := 0xA5#8, f := 0x00#8 }
      (fun t => (t.a, t.pc, t.f, t.cycles)) =
    some (0xFF#8, 0xC102#16, 0x00#8, 8) := by decide

/-- `B8` CP B (R172). -/
theorem test_r172 :
    after { prog [0xB8#8] with a := 0x3C#8, b := 0x2F#8, f := 0x00#8 }
      (fun t => (t.a, t.pc, t.f, t.cycles)) =
    some (0x3C#8, 0xC101#16, 0x60#8, 4) := by decide

/-- `FE 3C` CP 0x3C (R174). -/
theorem test_r174 :
    after { prog [0xFE#8, 0x3C#8] with a := 0x3C#8, f := 0x00#8 }
      (fun t => (t.a, t.pc, t.f, t.cycles)) =
    some (0x3C#8, 0xC102#16, 0xC0#8, 8) := by decide

/-- `BE` CP (HL) (R173). -/
theorem test_r173 :
    after { withBytes [(0xC000#16, 0x3C#8)] (prog [0xBE#8]) with a := 0x3C#8, h := 0xC0#8, l := 0x00#8, f := 0x00#8 }
      (fun t => (t.a, t.pc, t.f, t.cycles)) =
    some (0x3C#8, 0xC101#16, 0xC0#8, 8) := by decide

/-- `3C` INC A (R175). -/
theorem test_r175 :
    after { prog [0x3C#8] with a := 0xFF#8, f := 0x10#8 }
      (fun t => (t.a, t.pc, t.f, t.cycles)) =
    some (0x00#8, 0xC101#16, 0xB0#8, 4) := by decide

/-- `04` INC B (R175). -/
theorem test_r175_b :
    after { prog [0x04#8] with b := 0x0F#8, f := 0x00#8 }
      (fun t => (t.b, t.pc, t.f, t.cycles)) =
    some (0x10#8, 0xC101#16, 0x20#8, 4) := by decide

/-- `05` DEC B (R177). -/
theorem test_r177 :
    after { prog [0x05#8] with b := 0x01#8, f := 0x00#8 }
      (fun t => (t.b, t.pc, t.f, t.cycles)) =
    some (0x00#8, 0xC101#16, 0xC0#8, 4) := by decide

/-- `05` DEC B (R177). -/
theorem test_r177_b :
    after { prog [0x05#8] with b := 0x00#8, f := 0x10#8 }
      (fun t => (t.b, t.pc, t.f, t.cycles)) =
    some (0xFF#8, 0xC101#16, 0x70#8, 4) := by decide

/-- `34` INC (HL) (R176). -/
theorem test_r176 :
    after { withBytes [(0xC000#16, 0x0F#8)] (prog [0x34#8]) with h := 0xC0#8, l := 0x00#8, f := 0x00#8 }
      (fun t => (t.pc, t.f, t.busRead 0xC000#16, t.cycles)) =
    some (0xC101#16, 0x20#8, 0x10#8, 12) := by decide

/-- `35` DEC (HL) (R178). -/
theorem test_r178 :
    after { withBytes [(0xC000#16, 0x00#8)] (prog [0x35#8]) with h := 0xC0#8, l := 0x00#8, f := 0x00#8 }
      (fun t => (t.pc, t.f, t.busRead 0xC000#16, t.cycles)) =
    some (0xC101#16, 0x60#8, 0xFF#8, 12) := by decide

/-- `27` DAA (R179). -/
theorem test_r179 :
    after { prog [0x27#8] with a := 0x7D#8, f := 0x00#8 }
      (fun t => (t.a, t.pc, t.f, t.cycles)) =
    some (0x83#8, 0xC101#16, 0x00#8, 4) := by decide

/-- `27` DAA (R179). -/
theorem test_r179_b :
    after { prog [0x27#8] with a := 0x9A#8, f := 0x00#8 }
      (fun t => (t.a, t.pc, t.f, t.cycles)) =
    some (0x00#8, 0xC101#16, 0x90#8, 4) := by decide

/-- `2F` CPL (R180). -/
theorem test_r180 :
    after { prog [0x2F#8] with a := 0x35#8, f := 0x00#8 }
      (fun t => (t.a, t.pc, t.f, t.cycles)) =
    some (0xCA#8, 0xC101#16, 0x60#8, 4) := by decide

/-- `37` SCF (R181). -/
theorem test_r181 :
    after { prog [0x37#8] with f := 0xE0#8 }
      (fun t => (t.pc, t.f, t.cycles)) =
    some (0xC101#16, 0x90#8, 4) := by decide

/-- `3F` CCF (R182). -/
theorem test_r182 :
    after { prog [0x3F#8] with f := 0x70#8 }
      (fun t => (t.pc, t.f, t.cycles)) =
    some (0xC101#16, 0x00#8, 4) := by decide

/-- `09` ADD HL,BC (R183). -/
theorem test_r183 :
    after { prog [0x09#8] with h := 0x8A#8, l := 0x23#8, b := 0x06#8, c := 0x05#8, f := 0x80#8 }
      (fun t => (t.h, t.l, t.pc, t.f, t.cycles)) =
    some (0x90#8, 0x28#8, 0xC101#16, 0xA0#8, 8) := by decide

/-- `29` ADD HL,HL (R183). -/
theorem test_r183_b :
    after { prog [0x29#8] with h := 0x8A#8, l := 0x23#8, f := 0x00#8 }
      (fun t => (t.h, t.l, t.pc, t.f, t.cycles)) =
    some (0x14#8, 0x46#8, 0xC101#16, 0x30#8, 8) := by decide

/-- `03` INC BC (R184). -/
theorem test_r184 :
    after { prog [0x03#8] with b := 0xFF#8, c := 0xFF#8, f := 0xF0#8 }
      (fun t => (t.b, t.c, t.pc, t.f, t.cycles)) =
    some (0x00#8, 0x00#8, 0xC101#16, 0xF0#8, 8) := by decide

/-- `0B` DEC BC (R185). -/
theorem test_r185 :
    after { prog [0x0B#8] with b := 0x00#8, c := 0x00#8, f := 0x00#8 }
      (fun t => (t.b, t.c, t.pc, t.f, t.cycles)) =
    some (0xFF#8, 0xFF#8, 0xC101#16, 0x00#8, 8) := by decide

/-- `E8 02` ADD SP,+2 (R186). -/
theorem test_r186 :
    after { prog [0xE8#8, 0x02#8] with sp := 0xFFF8#16, f := 0xF0#8 }
      (fun t => (t.sp, t.pc, t.f, t.cycles)) =
    some (0xFFFA#16, 0xC102#16, 0x00#8, 16) := by decide

/-- `E8 FF` ADD SP,-1 (R186). -/
theorem test_r186_b :
    after { prog [0xE8#8, 0xFF#8] with sp := 0x0001#16, f := 0x00#8 }
      (fun t => (t.sp, t.pc, t.f, t.cycles)) =
    some (0x0000#16, 0xC102#16, 0x30#8, 16) := by decide

/-- `07` RLCA (R187). -/
theorem test_r187 :
    after { prog [0x07#8] with a := 0x85#8, f := 0x00#8 }
      (fun t => (t.a, t.pc, t.f, t.cycles)) =
    some (0x0B#8, 0xC101#16, 0x10#8, 4) := by decide

/-- `0F` RRCA (R188). -/
theorem test_r188 :
    after { prog [0x0F#8] with a := 0x3B#8, f := 0x00#8 }
      (fun t => (t.a, t.pc, t.f, t.cycles)) =
    some (0x9D#8, 0xC101#16, 0x10#8, 4) := by decide

/-- `17` RLA (R189). -/
theorem test_r189 :
    after { prog [0x17#8] with a := 0x95#8, f := 0x10#8 }
      (fun t => (t.a, t.pc, t.f, t.cycles)) =
    some (0x2B#8, 0xC101#16, 0x10#8, 4) := by decide

/-- `1F` RRA (R190). -/
theorem test_r190 :
    after { prog [0x1F#8] with a := 0x81#8, f := 0x00#8 }
      (fun t => (t.a, t.pc, t.f, t.cycles)) =
    some (0x40#8, 0xC101#16, 0x10#8, 4) := by decide

/-- `CB 00` RLC B (R191). -/
theorem test_r191 :
    after { prog [0xCB#8, 0x00#8] with b := 0x85#8, f := 0x00#8 }
      (fun t => (t.b, t.pc, t.f, t.cycles)) =
    some (0x0B#8, 0xC102#16, 0x10#8, 8) := by decide

/-- `CB 09` RRC C (R193). -/
theorem test_r193 :
    after { prog [0xCB#8, 0x09#8] with c := 0x01#8, f := 0x00#8 }
      (fun t => (t.c, t.pc, t.f, t.cycles)) =
    some (0x80#8, 0xC102#16, 0x10#8, 8) := by decide

/-- `CB 12` RL D (R195). -/
theorem test_r195 :
    after { prog [0xCB#8, 0x12#8] with d := 0x80#8, f := 0x00#8 }
      (fun t => (t.d, t.pc, t.f, t.cycles)) =
    some (0x00#8, 0xC102#16, 0x90#8, 8) := by decide

/-- `CB 1B` RR E (R197). -/
theorem test_r197 :
    after { prog [0xCB#8, 0x1B#8] with e := 0x01#8, f := 0x00#8 }
      (fun t => (t.e, t.pc, t.f, t.cycles)) =
    some (0x00#8, 0xC102#16, 0x90#8, 8) := by decide

/-- `CB 1B` RR E (R197). -/
theorem test_r197_b :
    after { prog [0xCB#8, 0x1B#8] with e := 0x00#8, f := 0x10#8 }
      (fun t => (t.e, t.pc, t.f, t.cycles)) =
    some (0x80#8, 0xC102#16, 0x00#8, 8) := by decide

/-- `CB 24` SLA H (R199). -/
theorem test_r199 :
    after { prog [0xCB#8, 0x24#8] with h := 0xC0#8, f := 0x00#8 }
      (fun t => (t.h, t.pc, t.f, t.cycles)) =
    some (0x80#8, 0xC102#16, 0x10#8, 8) := by decide

/-- `CB 2D` SRA L (R201). -/
theorem test_r201 :
    after { prog [0xCB#8, 0x2D#8] with l := 0x8A#8, f := 0x00#8 }
      (fun t => (t.l, t.pc, t.f, t.cycles)) =
    some (0xC5#8, 0xC102#16, 0x00#8, 8) := by decide

/-- `CB 37` SWAP A (R203). -/
theorem test_r203 :
    after { prog [0xCB#8, 0x37#8] with a := 0xF0#8, f := 0x10#8 }
      (fun t => (t.a, t.pc, t.f, t.cycles)) =
    some (0x0F#8, 0xC102#16, 0x00#8, 8) := by decide

/-- `CB 3F` SRL A (R205). -/
theorem test_r205 :
    after { prog [0xCB#8, 0x3F#8] with a := 0x01#8, f := 0x00#8 }
      (fun t => (t.a, t.pc, t.f, t.cycles)) =
    some (0x00#8, 0xC102#16, 0x90#8, 8) := by decide

/-- `CB 06` RLC (HL) (R192). -/
theorem test_r192 :
    after { withBytes [(0xC000#16, 0x80#8)] (prog [0xCB#8, 0x06#8]) with h := 0xC0#8, l := 0x00#8, f := 0x00#8 }
      (fun t => (t.pc, t.f, t.busRead 0xC000#16, t.cycles)) =
    some (0xC102#16, 0x10#8, 0x01#8, 16) := by decide

/-- `CB 36` SWAP (HL) (R204). -/
theorem test_r204 :
    after { withBytes [(0xC000#16, 0x12#8)] (prog [0xCB#8, 0x36#8]) with h := 0xC0#8, l := 0x00#8, f := 0x00#8 }
      (fun t => (t.pc, t.f, t.busRead 0xC000#16, t.cycles)) =
    some (0xC102#16, 0x00#8, 0x21#8, 16) := by decide

/-- `CB 3E` SRL (HL) (R206). -/
theorem test_r206 :
    after { withBytes [(0xC000#16, 0xFF#8)] (prog [0xCB#8, 0x3E#8]) with h := 0xC0#8, l := 0x00#8, f := 0x00#8 }
      (fun t => (t.pc, t.f, t.busRead 0xC000#16, t.cycles)) =
    some (0xC102#16, 0x10#8, 0x7F#8, 16) := by decide

/-- `CB 7C` BIT 7,H (R207). -/
theorem test_r207 :
    after { prog [0xCB#8, 0x7C#8] with h := 0x80#8, f := 0x10#8 }
      (fun t => (t.pc, t.f, t.cycles)) =
    some (0xC102#16, 0x30#8, 8) := by decide

/-- `CB 46` BIT 0,(HL) (R208). -/
theorem test_r208 :
    after { withBytes [(0xC000#16, 0x01#8)] (prog [0xCB#8, 0x46#8]) with h := 0xC0#8, l := 0x00#8, f := 0x50#8 }
      (fun t => (t.pc, t.f, t.cycles)) =
    some (0xC102#16, 0x30#8, 12) := by decide

/-- `CB 87` RES 0,A (R209). -/
theorem test_r209 :
    after { prog [0xCB#8, 0x87#8] with a := 0xFF#8, f := 0xF0#8 }
      (fun t => (t.a, t.pc, t.f, t.cycles)) =
    some (0xFE#8, 0xC102#16, 0xF0#8, 8) := by decide

/-- `CB BE` RES 7,(HL) (R210). -/
theorem test_r210 :
    after { withBytes [(0xC000#16, 0xFF#8)] (prog [0xCB#8, 0xBE#8]) with h := 0xC0#8, l := 0x00#8, f := 0x00#8 }
      (fun t => (t.pc, t.f, t.busRead 0xC000#16, t.cycles)) =
    some (0xC102#16, 0x00#8, 0x7F#8, 16) := by decide

/-- `CB FF` SET 7,A (R211). -/
theorem test_r211 :
    after { prog [0xCB#8, 0xFF#8] with a := 0x00#8, f := 0x00#8 }
      (fun t => (t.a, t.pc, t.f, t.cycles)) =
    some (0x80#8, 0xC102#16, 0x00#8, 8) := by decide

/-- `CB C6` SET 0,(HL) (R212). -/
theorem test_r212 :
    after { withBytes [(0xC000#16, 0x00#8)] (prog [0xCB#8, 0xC6#8]) with h := 0xC0#8, l := 0x00#8, f := 0x00#8 }
      (fun t => (t.pc, t.f, t.busRead 0xC000#16, t.cycles)) =
    some (0xC102#16, 0x00#8, 0x01#8, 16) := by decide

/-- `C3 00 C2` JP 0xC200 (R213). -/
theorem test_r213 :
    after { prog [0xC3#8, 0x00#8, 0xC2#8] with f := 0x00#8 }
      (fun t => (t.pc, t.f, t.cycles)) =
    some (0xC200#16, 0x00#8, 16) := by decide

/-- `C2 00 C2` JP NZ,0xC200 (R214). -/
theorem test_r214 :
    after { prog [0xC2#8, 0x00#8, 0xC2#8] with f := 0x80#8 }
      (fun t => (t.pc, t.f, t.cycles)) =
    some (0xC103#16, 0x80#8, 12) := by decide

/-- `CA 00 C2` JP Z,0xC200 (R214). -/
theorem test_r214_b :
    after { prog [0xCA#8, 0x00#8, 0xC2#8] with f := 0x80#8 }
      (fun t => (t.pc, t.f, t.cycles)) =
    some (0xC200#16, 0x80#8, 16) := by decide

/-- `E9` JP HL (R215). -/
theorem test_r215 :
    after { prog [0xE9#8] with h := 0x01#8, l := 0x50#8, f := 0x00#8 }
      (fun t => (t.pc, t.f, t.cycles)) =
    some (0x0150#16, 0x00#8, 4) := by decide

/-- `18 FE` JR -2 (R216). -/
theorem test_r216 :
    after { prog [0x18#8, 0xFE#8] with f := 0x00#8 }
      (fun t => (t.pc, t.f, t.cycles)) =
    some (0xC100#16, 0x00#8, 12) := by decide

/-- `20 05` JR NZ,+5 (R217). -/
theorem test_r217 :
    after { prog [0x20#8, 0x05#8] with f := 0x00#8 }
      (fun t => (t.pc, t.f, t.cycles)) =
    some (0xC107#16, 0x00#8, 12) := by decide

/-- `28 05` JR Z,+5 (R217). -/
theorem test_r217_b :
    after { prog [0x28#8, 0x05#8] with f := 0x00#8 }
      (fun t => (t.pc, t.f, t.cycles)) =
    some (0xC102#16, 0x00#8, 8) := by decide

/-- `CD 00 C2` CALL 0xC200 (R218). -/
theorem test_r218 :
    after { prog [0xCD#8, 0x00#8, 0xC2#8] with sp := 0xFFFE#16, f := 0x00#8 }
      (fun t => (t.sp, t.pc, t.f, t.busRead 0xFFFC#16, t.busRead 0xFFFD#16, t.cycles)) =
    some (0xFFFC#16, 0xC200#16, 0x00#8, 0x03#8, 0xC1#8, 24) := by decide

/-- `C4 00 C2` CALL NZ,0xC200 (R219). -/
theorem test_r219 :
    after { prog [0xC4#8, 0x00#8, 0xC2#8] with sp := 0xFFFE#16, f := 0x80#8 }
      (fun t => (t.pc, t.f, t.cycles)) =
    some (0xC103#16, 0x80#8, 12) := by decide

/-- `DC 00 C2` CALL C,0xC200 (R219). -/
theorem test_r219_b :
    after { prog [0xDC#8, 0x00#8, 0xC2#8] with sp := 0xFFFE#16, f := 0x10#8 }
      (fun t => (t.sp, t.pc, t.f, t.busRead 0xFFFC#16, t.busRead 0xFFFD#16, t.cycles)) =
    some (0xFFFC#16, 0xC200#16, 0x10#8, 0x03#8, 0xC1#8, 24) := by decide

/-- `FF` RST 0x38 (R220). -/
theorem test_r220 :
    after { prog [0xFF#8] with sp := 0xFFFE#16, f := 0x00#8 }
      (fun t => (t.sp, t.pc, t.f, t.busRead 0xFFFC#16, t.busRead 0xFFFD#16, t.cycles)) =
    some (0xFFFC#16, 0x0038#16, 0x00#8, 0x01#8, 0xC1#8, 16) := by decide

/-- `C9` RET (R221). -/
theorem test_r221 :
    after { withBytes [(0xFFFC#16, 0x03#8), (0xFFFD#16, 0xC1#8)] (prog [0xC9#8]) with sp := 0xFFFC#16, f := 0x00#8 }
      (fun t => (t.sp, t.pc, t.f, t.cycles)) =
    some (0xFFFE#16, 0xC103#16, 0x00#8, 16) := by decide

/-- `C0` RET NZ (R222). -/
theorem test_r222 :
    after { withBytes [(0xFFFC#16, 0x03#8), (0xFFFD#16, 0xC1#8)] (prog [0xC0#8]) with sp := 0xFFFC#16, f := 0x00#8 }
      (fun t => (t.sp, t.pc, t.f, t.cycles)) =
    some (0xFFFE#16, 0xC103#16, 0x00#8, 20) := by decide

/-- `C8` RET Z (R222). -/
theorem test_r222_b :
    after { withBytes [(0xFFFC#16, 0x03#8), (0xFFFD#16, 0xC1#8)] (prog [0xC8#8]) with sp := 0xFFFC#16, f := 0x00#8 }
      (fun t => (t.pc, t.f, t.cycles)) =
    some (0xC101#16, 0x00#8, 8) := by decide

/-- `D9` RETI (R223). -/
theorem test_r223 :
    after { withBytes [(0xFFFC#16, 0x03#8), (0xFFFD#16, 0xC1#8)] (prog [0xD9#8]) with sp := 0xFFFC#16, f := 0x00#8 }
      (fun t => (t.sp, t.pc, t.ime, t.f, t.cycles)) =
    some (0xFFFE#16, 0xC103#16, true, 0x00#8, 16) := by decide

/-- `00` NOP (R224). -/
theorem test_r224 :
    after { prog [0x00#8] with f := 0xB0#8 }
      (fun t => (t.pc, t.f, t.cycles)) =
    some (0xC101#16, 0xB0#8, 4) := by decide

/-- `76` HALT (R225). -/
theorem test_r225 :
    after { prog [0x76#8] with f := 0x00#8 }
      (fun t => (t.pc, t.mode, t.f, t.cycles)) =
    some (0xC101#16, RunMode.halted, 0x00#8, 4) := by decide

/-- `76` HALT (R225). -/
theorem test_r225_b :
    after { withBytes [(0xFF0F#16, 0x01#8)] (prog [0x76#8]) with f := 0x00#8, ie := 0x01#8 }
      (fun t => (t.fault, t.pc, t.cycles)) =
    some (some Fault.haltBug, 0xC100#16, 0) := by decide

/-- `10 00` STOP (R226). -/
theorem test_r226 :
    after { prog [0x10#8, 0x00#8] with f := 0x00#8 }
      (fun t => (t.pc, t.mode, t.f, t.cycles)) =
    some (0xC102#16, RunMode.stopped, 0x00#8, 4) := by decide

/-- `10 42` STOP (R226). -/
theorem test_r226_b :
    after { prog [0x10#8, 0x42#8] with f := 0x00#8 }
      (fun t => (t.pc, t.mode, t.f, t.cycles)) =
    some (0xC102#16, RunMode.stopped, 0x00#8, 4) := by decide

/-- `F3` DI (R227). -/
theorem test_r227 :
    after { prog [0xF3#8] with ime := true, f := 0x00#8 }
      (fun t => (t.pc, t.ime, t.f, t.cycles)) =
    some (0xC101#16, false, 0x00#8, 4) := by decide

/-- `F3` DI (R227). -/
theorem test_r227_b :
    after { prog [0xF3#8] with imePending := true, f := 0x00#8 }
      (fun t => (t.pc, t.imePending, t.f, t.cycles)) =
    some (0xC101#16, false, 0x00#8, 4) := by decide

/-- `FB` EI (R228). -/
theorem test_r228 :
    after { prog [0xFB#8] with f := 0x00#8 }
      (fun t => (t.pc, t.imePending, t.f, t.cycles)) =
    some (0xC101#16, true, 0x00#8, 4) := by decide

/-- `D3` UNDEFINED 0xD3 (R229). -/
theorem test_r229 :
    after { prog [0xD3#8] with f := 0x00#8 }
      (fun t => (t.pc, t.mode, t.f, t.cycles)) =
    some (0xC101#16, RunMode.locked, 0x00#8, 4) := by decide

/-- `FD` UNDEFINED 0xFD (R229). -/
theorem test_r229_b :
    after { prog [0xFD#8] with imePending := true, f := 0x00#8 }
      (fun t => (t.pc, t.ime, t.imePending, t.mode, t.f, t.cycles)) =
    some (0xC101#16, true, false, RunMode.locked, 0x00#8, 4) := by decide

/-! ## The cartridge: vectors M1 to M31 -/

/-- Writes, in order. -/
def writes (cells : List (Addr × Byte)) (s : State) : State := cells.foldl (fun s cell => s.busWrite cell.1 cell.2) s

/-- An image of `n` banks whose byte 0 of bank b is b (the markers of the vectors). -/
def markedImage (banks : Nat) : RomImage :=
  { size := banks * 0x4000, bytes := (List.range banks).map (fun b => (b * 0x4000, BitVec.ofNat 8 b)) }

/-- A cartridge on such an image. -/
def banked (m : Mbc) (banks : Nat) : State :=
  { State.reset with cart := some { blankCartridge with mbc := m, rom := markedImage banks } }

/-- MBC1 at reset. -/
def mbc1 : Mbc := .mbc1 { ramg := false, bank1 := 1#5, bank2 := 0#2, bmode := false }

/-- MBC2 at reset. -/
def mbc2 : Mbc := .mbc2 { ramg := false, romb := 1#4 }

/-- MBC3 at reset, its clock at `live`. -/
def mbc3 (live : RtcSet) : Mbc :=
  .mbc3 { ramg := false, romb := 1#7, sel := 0#8, latchLast := none, live := live, latched := RtcSet.zero }

/-- MBC5 at reset. -/
def mbc5 : Mbc := .mbc5 { ramg := false, romb := 1#9, ramb := 0#4 }

/-- HuC1 at reset. -/
def huc1 : Mbc := .huc1 { ramg := false, irmode := false, romb := 1#6, ramb := 0#2 }

/-- M3 to M6: Fixed ignores the write; MBC1 selects, reduces and aliases (R75, R78 to R81). -/
theorem test_mbc1_banks :
    (writes [(0x2000#16, 0x05#8)] (banked .fixed 2)).busRead 0x4000#16 = 1#8
      ∧ (writes [(0x2000#16, 0x02#8)] (banked mbc1 4)).busRead 0x4000#16 = 2#8
      ∧ (writes [(0x2000#16, 0x07#8)] (banked mbc1 4)).busRead 0x4000#16 = 3#8
      ∧ (writes [(0x2000#16, 0xE0#8)] (banked mbc1 4)).busRead 0x4000#16 = 1#8 := by decide

/-- M11: two KiB of RAM repeat in the window (R74, R76). -/
theorem test_mbc1_ram :
    (writes [(0x0000#16, 0x0A#8), (0xA000#16, 0x66#8)] (withCart mbc1 ramOnly 0x01#8 (prog []))).busRead 0xA800#16
      = 0x66#8 := by decide

/-- M13, M14, M16: address bit 8 selects the register (R83, C3). -/
theorem test_mbc2_banks :
    (writes [(0x2100#16, 0x05#8)] (banked mbc2 16)).busRead 0x4000#16 = 5#8
      ∧ (writes [(0x0100#16, 0x03#8)] (banked mbc2 16)).busRead 0x4000#16 = 3#8
      ∧ (writes [(0x2100#16, 0x10#8)] (banked mbc2 16)).busRead 0x4000#16 = 1#8 := by decide

/-- M19 to M21: reads show the latched set; the latch is 0x00 then 0x01 (R86, R88, R89). -/
theorem test_mbc3_latch :
    let s := withCart (mbc3 { RtcSet.zero with seconds := 0x2A#6 }) ramAndClock 0x03#8 (prog [])
    let s := writes [(0x0000#16, 0x0A#8), (0x4000#16, 0x08#8)] s
    s.busRead 0xA000#16 = 0x00#8
      ∧ (writes [(0x6000#16, 0x00#8), (0x6000#16, 0x01#8)] s).busRead 0xA000#16 = 0x2A#8
      ∧ (writes [(0x6000#16, 0x01#8)] s).busRead 0xA000#16 = 0x00#8 := by decide

/-- M24 to M26: the clock's carry chain, its halt, and a value out of range (R90). -/
theorem test_rtc_tick :
    rtcAdvance { seconds := 59#6, minutes := 59#6, hours := 23#5, dayLow := 0xFF#8, dayHigh := true, halt := false,
                 dayCarry := false }
        = { RtcSet.zero with dayCarry := true }
      ∧ (rtcAdvance { RtcSet.zero with seconds := 5#6, halt := true }).seconds = 5#6
      ∧ rtcAdvance { RtcSet.zero with seconds := 0x3F#6 } = RtcSet.zero := by decide

/-- M30: the motor bit is no bank bit on a rumble cartridge (R91). -/
theorem test_mbc5_rumble : mbc5Write true { ramg := false, romb := 1#9, ramb := 0#4 } 0x4000#16 0x0F#8
    = { ramg := false, romb := 1#9, ramb := 7#4 } := by decide

/-- M31: an access in infrared mode is F_HUC1_IR, and nothing else changes (R97, R236). -/
theorem test_huc1_infrared :
    let s := withBytes (cellsFrom 0xC100#16 [0x7E#8]) { infraredState with h := 0xA0#8, l := 0x00#8 }
    step s = .next { s with fault := some .huc1Ir } := by rfl

/-! ## Interrupts and the step: vectors I1 to I19 -/

/-- The start state of those vectors. -/
def atReset (ime : Bool) (ie ifByte : Byte) (bytes : List Byte) : State :=
  withBytes ((0xFF0F#16, ifByte) :: cellsFrom 0xC200#16 bytes) { State.reset with pc := 0xC200#16, ime := ime, ie := ie }

/-- I1, I2: the lowest pending source is dispatched (R240, R241). -/
theorem test_dispatch :
    after (atReset true 0x1F#8 0x06#8 []) (fun t =>
        (t.busRead 0xFF0F#16, t.ime, t.sp, t.busRead 0xFFFC#16, t.pc, t.cycles))
        = some (0x04#8, false, 0xFFFC#16, 0x00#8, 0x0048#16, 20)
      ∧ after (atReset true 0x10#8 0x1F#8 []) (fun t => (t.busRead 0xFF0F#16, t.pc, t.cycles))
        = some (0x0F#8, 0x0060#16, 20) := by decide

/-- I3, I4: bits 7 to 5 request nothing, and with IME = 0 nothing is dispatched (R239). -/
theorem test_no_dispatch :
    after (atReset true 0xE0#8 0xE0#8 [0x00#8]) (fun t => (t.pc, t.cycles)) = some (0xC201#16, 4)
      ∧ after (atReset false 0x01#8 0x01#8 [0x00#8]) (fun t => (t.pc, t.busRead 0xFF0F#16)) = some (0xC201#16, 0x01#8) := by
  decide

/-- I5, I6: F_IE_PUSH at SP = 0, and a push over IF after it is cleared (R236, R241). -/
theorem test_dispatch_stack :
    after { atReset true 0x01#8 0x01#8 [] with sp := 0x0000#16 } (fun t => (t.fault, t.ime, t.pc, t.busRead 0xFF0F#16, t.cycles))
        = some (some .iePush, true, 0xC200#16, 0x01#8, 0)
      ∧ after { atReset true 0x01#8 0x01#8 [] with sp := 0xFF11#16 } (fun t =>
          (t.busRead 0xFF10#16, t.busRead 0xFF0F#16, t.pc))
        = some (0xC2#8, 0x00#8, 0x0040#16) := by decide

/-- I7, I8, I15: waking from Halted dispatches nothing in the same step; Stopped wakes by the host only. -/
theorem test_wake :
    after { atReset true 0x04#8 0x04#8 [] with mode := .halted } (fun t => (t.mode, t.ime, t.pc, t.cycles))
        = some (.running, true, 0xC200#16, 4)
      ∧ after { atReset false 0x04#8 0x00#8 [] with mode := .halted } (fun t => (t.mode, t.cycles)) = some (.halted, 4)
      ∧ after { atReset true 0x1F#8 0x1F#8 [] with mode := .stopped } (fun t => (t.mode, t.cycles)) = some (.stopped, 4)
      ∧ (hostWakeStop { atReset true 0x1F#8 0x1F#8 [] with mode := .stopped }).mode = .running := by decide

/-- I9 to I11: the delayed enable, cancelled by DI, consumed by a second EI (R232). -/
theorem test_delayed_enable :
    after { atReset false 0x01#8 0x00#8 [0x00#8] with imePending := true } (fun t => (t.ime, t.imePending)) = some (true, false)
      ∧ after { atReset false 0x01#8 0x00#8 [0xF3#8] with imePending := true } (fun t => (t.ime, t.imePending))
        = some (false, false)
      ∧ after { atReset false 0x01#8 0x00#8 [0xFB#8] with imePending := true } (fun t => (t.ime, t.imePending))
        = some (true, false) := by decide

/-- I17 to I19: no step on budget 0, the overshoot bound, and a marked state (R236, R246). -/
theorem test_emulate :
    (emulate 0 (prog [])).1 = 0 ∧ (emulate 1 (prog [0xCD#8, 0x00#8, 0xC2#8])).1 = -23
      ∧ (emulate 100 { prog [] with fault := some .haltBug }).1 = 100 := by decide

/-! ## Reset and load: vectors R-1 to R-3, W6, M1 -/

/-- R-1, R-2 (R45, R46). -/
theorem test_reset_registers :
    (State.reset.af, State.reset.bc, State.reset.de, State.reset.hl) = (0x01B0#16, 0x0013#16, 0x00D8#16, 0x014D#16)
      ∧ (hostReset true InitMem.none State.reset).pc = 0x0000#16
      ∧ (hostReset true InitMem.none State.reset).bootMapped = true := by decide

/-- R-3: a cartridge stays loaded and its controller returns to reset (R49, R255). -/
theorem test_reset_cartridge :
    (cartReset CartInit.none { blankCartridge with
        mbc := .mbc1 { ramg := true, bank1 := 5#5, bank2 := 2#2, bmode := true } }).mbc = mbc1 := by decide

/-- W6, M1: a short image and an unsupported type are errors (R70, R73). -/
theorem test_parse_errors :
    tryParse CartInit.none { size := 0x14F, bytes := [] } = .error (.invalidHeaderLength 0x14F)
      ∧ tryParse CartInit.none { size := 0x150, bytes := [(0x147, 0x04#8)] } = .error (.unsupportedCartridgeType 0x04#8) :=
  ⟨rfl, rfl⟩

/-! ## States and operands that meet the hypotheses of each statement -/

/-- A register state whose pairs point to VRAM, WRAM, the echo window and HRAM. -/
def pointers : State :=
  { State.reset with b := 0x80#8, c := 0x00#8, d := 0xDF#8, e := 0xFF#8, h := 0xE0#8, l := 0x00#8, sp := 0xFF82#16 }

/-- In infrared mode, HL just below the window and the other pairs just above or far from it. -/
def beside : State := { infraredState with h := 0x9F#8, l := 0xFF#8, b := 0xC0#8, c := 0x00#8, d := 0x80#8, e := 0x00#8 }

theorem test_meets_pairs : StackPair.af ≠ .bc ∧ StackPair.hl ≠ .af ∧ StackPair.de ≠ .hl := by decide

theorem test_meets_flags_in_f : State.reset.f &&& 0x0F#8 = 0#8 ∧ (prog []).f &&& 0x0F#8 = 0#8 := by decide

theorem test_meets_decode_of_encode :
    (Instr.ldHlN16 0xFFFF#16).wellFormed = true ∧ (Instr.ldHlN16 0x0000#16).wellFormed = true
      ∧ (Instr.jrE8 0x80#8).wellFormed = true ∧ Instr.set7A.wellFormed = true := by decide

theorem test_meets_encode_of_decode :
    decode [0x21#8, 0xFF#8, 0xFF#8, 0x00#8] = .ok (.ldHlN16 0xFFFF#16, [0x00#8]) ∧ decode [0xCB#8, 0xFF#8] = .ok (.set7A, []) :=
  ⟨rfl, rfl⟩

theorem test_meets_undefined_bytes :
    decode [0xD3#8] = .ok (.undefD3, []) ∧ Instr.undefD3.form = .undefined 0xD3#8
      ∧ decode [0xFD#8, 0x00#8] = .ok (.undefFD, [0x00#8]) ∧ Instr.undefFD.form = .undefined 0xFD#8 := ⟨rfl, rfl, rfl, rfl⟩

theorem test_meets_prefix_row : State.reset.irBlocked State.reset.hl = false ∧ beside.irBlocked beside.hl = false
    ∧ ({ beside with h := 0xC0#8, l := 0x00#8 } : State).irBlocked 0xC000#16 = false := by decide

/-- One, two and three bytes; the last instruction runs over the top of the address space. -/
theorem test_meets_step_runs :
    (runsInstr (prog [0x00#8]) ∧ decode (bytesAtPc (prog [0x00#8])) = .ok (.nop, [0x00#8, 0x00#8]))
      ∧ (runsInstr (prog [0xCD#8, 0x00#8, 0xC2#8])
          ∧ decode (bytesAtPc (prog [0xCD#8, 0x00#8, 0xC2#8])) = .ok (.callN16 0xC200#16, []))
      ∧ (let s := withBytes [(0xFFFE#16, 0x3E#8)] { State.reset with pc := 0xFFFE#16, ie := 0x42#8, ime := true }
        s.pend = 0#8 ∧ decode (bytesAtPc s) = .ok (.ldAN8 0x42#8, [s.busRead 0x0000#16]))
      ∧ (∀ k, k < 3 → (prog [0xCD#8]).irBlocked ((prog [0xCD#8]).pc + BitVec.ofNat 16 k) = false) :=
  ⟨⟨⟨rfl, rfl, .inl rfl⟩, rfl⟩, ⟨⟨rfl, rfl, .inl rfl⟩, rfl⟩, ⟨by decide, rfl⟩, by decide⟩

theorem test_meets_idle_steps :
    ({ prog [] with mode := .locked } : State).fault = none ∧ ({ prog [] with mode := .stopped } : State).fault = none
      ∧ (atReset true 0xE0#8 0xE0#8 []).ie &&& (atReset true 0xE0#8 0xE0#8 []).mem.read 0xFF0F &&& 0x1F#8 = 0#8
      ∧ (atReset true 0x10#8 0x10#8 []).ie &&& (atReset true 0x10#8 0x10#8 []).mem.read 0xFF0F &&& 0x1F#8 ≠ 0#8 := by decide

/-- Every source requested and enabled. -/
def allRequested : State := atReset true 0x1F#8 0x1F#8 []

/-- Every source requested and enabled, the infrared window open. -/
def infraredRequested (sp : Addr) : State := { allRequested with cart := infraredState.cart, sp := sp }

/-- Source 4 alone requested, SP = 1. -/
def lastRequested : State := { atReset true 0x1F#8 0x10#8 [] with sp := 0x0001#16 }

/-- Source 0 and source 4, with SP = 0 and with SP = 1. -/
theorem test_meets_interrupt_entry :
    (allRequested.fault = none ∧ allRequested.mode = .running ∧ allRequested.ime = true
        ∧ (allRequested.ie &&& allRequested.mem.read 0xFF0F).getLsbD 0 = true)
      ∧ (lastRequested.fault = none ∧ lastRequested.mode = .running ∧ lastRequested.ime = true
        ∧ (lastRequested.ie &&& lastRequested.mem.read 0xFF0F).getLsbD 4 = true
        ∧ (∀ m, m < 4 → (lastRequested.ie &&& lastRequested.mem.read 0xFF0F).getLsbD m = false) ∧ lastRequested.sp ≠ 0#16)
      ∧ pushFree allRequested ∧ pushFree lastRequested
      ∧ ({ lastRequested with sp := 0x0000#16 } : State).sp = 0#16 := by
  unfold pushFree; decide

/-- A request with the push at either end of the infrared window. -/
theorem test_meets_interrupt_infrared :
    ¬ pushFree (infraredRequested 0xA001#16) ∧ ¬ pushFree (infraredRequested 0xC001#16)
      ∧ (infraredRequested 0xC001#16).fault = none ∧ (infraredRequested 0xC001#16).mode = .running
      ∧ (infraredRequested 0xC001#16).ime = true
      ∧ ((infraredRequested 0xC001#16).ie &&& (infraredRequested 0xC001#16).mem.read 0xFF0F).getLsbD 0 = true := by
  unfold pushFree; decide

theorem test_meets_model_fault_step :
    ({ prog [] with fault := some .iePush } : State).fault = some .iePush ∧ (prog []).fault = none
      ∧ ∃ t, step (atReset false 0x01#8 0x01#8 [0x76#8]) = .next t ∧ t.fault ≠ none := ⟨rfl, rfl, _, rfl, by decide⟩

/-- The step after EI, before this byte. -/
def afterEi (b : Byte) : State := { prog [b] with imePending := true }

/-- Pending, with DI and with NOP. -/
theorem test_meets_ei_delay_pending :
    runsInstr (afterEi 0xF3#8) ∧ decode (bytesAtPc (afterEi 0xF3#8)) = .ok (.di, [0x00#8, 0x00#8])
      ∧ after (afterEi 0xF3#8) (fun t => t.fault) = some none
      ∧ runsInstr (afterEi 0x00#8) ∧ decode (bytesAtPc (afterEi 0x00#8)) = .ok (.nop, [0x00#8, 0x00#8])
      ∧ after (afterEi 0x00#8) (fun t => t.fault) = some none :=
  ⟨⟨rfl, rfl, .inl rfl⟩, rfl, by decide, ⟨rfl, rfl, .inl rfl⟩, rfl, by decide⟩

/-- Not pending, with EI and with RETI; an idle mode; a faulting step. -/
theorem test_meets_ei_delay :
    (prog [0xFB#8]).imePending = false ∧ decode (bytesAtPc (prog [0xFB#8])) = .ok (.ei, [0x00#8, 0x00#8])
      ∧ after (prog [0xFB#8]) (fun t => t.fault) = some none
      ∧ decode (bytesAtPc (prog [0xD9#8])) = .ok (.reti, [0x00#8, 0x00#8])
      ∧ after (prog [0xD9#8]) (fun t => t.fault) = some none
      ∧ (∃ t, step { prog [] with mode := .halted } = .next t ∧ RunMode.halted ≠ .running)
      ∧ (allRequested.mode = .running ∧ allRequested.ime = true ∧ allRequested.pend ≠ 0#8
        ∧ after allRequested (fun t => t.fault) = some none)
      ∧ ∃ t, step { atReset false 0x01#8 0x01#8 [0x76#8] with imePending := true } = .next t ∧ t.fault ≠ none :=
  ⟨rfl, rfl, by decide, rfl, by decide, ⟨_, rfl, by decide⟩, by decide, _, rfl, by decide⟩

theorem test_meets_locked_forever :
    let events : List Event := [.step, .host .wakeStop, .host .rtcTick, .host (.writeIo 0xFF0F#16 0x1F#8), .step]
    let s : State := { prog [] with mode := .locked }
    s.mode = .locked ∧ s.fault = none ∧ events.all (fun e => !isReset e) = true ∧ ∃ t, runEvents events s = some t :=
  ⟨rfl, rfl, by decide, _, rfl⟩

/-- The least and the greatest cost, and a faulting step. -/
theorem test_meets_costs :
    after (prog [0x00#8]) (fun t => (t.fault, t.cycles)) = some (none, 4)
      ∧ after (prog [0xCD#8, 0x00#8, 0xC2#8]) (fun t => (t.fault, t.cycles)) = some (none, 24)
      ∧ ∃ t, step (atReset false 0x01#8 0x01#8 [0x76#8]) = .next t ∧ t.fault ≠ none := ⟨by decide, by decide, _, rfl, by decide⟩

theorem test_meets_emulate_budget :
    (prog []).fault = none ∧ (0 : Int) ≤ 0 ∧ (0 : Int) < 1 ∧ (∃ t, step (prog [0x00#8]) = .next t)
      ∧ 0 < (emulate 9 (atReset false 0x01#8 0x01#8 [0x76#8])).1 := ⟨rfl, by decide, by decide, ⟨_, rfl⟩, by decide⟩

theorem test_meets_step_keeps_wf :
    (prog [0x70#8]).wf = true ∧ (∃ t, step (prog [0x70#8]) = .next t)
      ∧ ∃ t, step (atReset true 0x1F#8 0x1F#8 []) = .next t := ⟨by decide, ⟨_, rfl⟩, _, rfl⟩

theorem test_meets_host_actions_keep_wf :
    State.reset.wf = true ∧ (∃ t, (HostAction.writeIo 0xFF7F#16 0xFF#8).apply State.reset = some t)
      ∧ (∃ t, (HostAction.writeVideo 0xFE9F#16 0xFF#8).apply State.reset = some t)
      ∧ ∃ t, (HostAction.loadCartridge CartInit.none [0x00#8]).apply State.reset = some t :=
  ⟨by decide, ⟨_, rfl⟩, ⟨_, rfl⟩, _, rfl⟩

theorem test_meets_cartridge_identity :
    ∃ t, step { banked mbc1 4 with pc := 0xC100#16, bootMapped := true } = .next t ∧ t.bootMapped = true := ⟨_, rfl, by decide⟩

/-- Each way a step changes MODE. -/
theorem test_meets_mode_changes :
    after (prog [0x76#8]) (fun t => t.mode) = some .halted ∧ after (prog [0x10#8]) (fun t => t.mode) = some .stopped
      ∧ after (prog [0xD3#8]) (fun t => t.mode) = some .locked
      ∧ after { atReset true 0x01#8 0x01#8 [] with mode := .halted } (fun t => t.mode) = some .running := by decide

theorem test_meets_register_frame :
    (∃ t, exec .incB State.reset = .next t) ∧ Reg8.c ∉ (Instr.incB.form).footprint.regs
      ∧ (Instr.incB.form).footprint.sp = false ∧ (Instr.pushBc.form).footprint.sp = true := ⟨⟨_, rfl⟩, by decide, rfl, rfl⟩

theorem test_meets_flag_frame :
    (∃ t, exec .incB State.reset = .next t) ∧ (Instr.incB.form).footprint.flags.c = false
      ∧ (Instr.scf.form).footprint.flags.z = false ∧ (Instr.daa.form).footprint.flags.n = false
      ∧ (Instr.ldBC.form).footprint.flags.h = false ∧ State.reset.f &&& 0x0F#8 = 0#8 := ⟨⟨_, rfl⟩, rfl, rfl, rfl, rfl, by decide⟩

theorem test_meets_control_frame :
    (∃ t, exec .ldBC State.reset = .next t) ∧ Instr.ldBC.form ≠ .di ∧ Instr.ldBC.form ≠ .reti ∧ Instr.ldBC.form ≠ .ei
      ∧ Instr.ldBC.form ≠ .halt ∧ (∀ n, Instr.ldBC.form ≠ .stop n) ∧ (∀ b, Instr.ldBC.form ≠ .undefined b)
      ∧ (Instr.ldBC.form).footprint.pc = false := by
  refine ⟨⟨_, rfl⟩, ?_⟩
  simp [Instr.form, Form.footprint, Footprint.of]

/-- A store into the echo window, which reaches WRAM. -/
theorem test_meets_memory_frame_store :
    (∃ t, exec .ldAtHlA pointers = .next t) ∧ (Instr.ldAtHlA.form).storesTo pointers = [0xE000#16]
      ∧ backing 0xE000#16 = .store 0xC000 ∧ pointers.storeReaches 0xE000#16 0xC000#16 = true
      ∧ pointers.storeReaches 0xE000#16 0xC001#16 = false ∧ pointers.storeReaches 0xE000#16 0xFFFF#16 = false :=
  ⟨⟨_, rfl⟩, by decide, by decide, by decide, by decide, by decide⟩

/-- The two stores of a push, to neither the cartridge nor 0xFF50 nor IE; and a form that stores nothing. -/
theorem test_meets_memory_frame_push :
    (∃ t, exec .pushBc pointers = .next t) ∧ (Instr.pushBc.form).storesTo pointers = [0xFF81#16, 0xFF80#16]
      ∧ 0x7FFF < (0xFF81#16).toNat ∧ ¬ inRamWindow 0xFF81#16 ∧ 0xFF81#16 ≠ 0xFF50#16 ∧ 0xFF81#16 ≠ 0xFFFF#16
      ∧ 0x7FFF < (0xFF80#16).toNat ∧ ¬ inRamWindow 0xFF80#16 ∧ 0xFF80#16 ≠ 0xFF50#16 ∧ 0xFF80#16 ≠ 0xFFFF#16
      ∧ (∃ t, exec .cpB pointers = .next t) ∧ (Instr.cpB.form).storesTo pointers = [] := by
  unfold inRamWindow
  exact ⟨⟨_, rfl⟩, by decide, by decide, by decide, by decide, by decide, by decide, by decide, by decide, by decide,
    ⟨_, rfl⟩, by decide⟩

theorem test_meets_loads :
    Instr.ldBC.form = .ldRegReg .b .c ∧ Instr.ldBB.form = .ldRegReg .b .b ∧ (Instr.ldAN8 0xFF#8).form = .ldRegImm .a 0xFF#8
      ∧ Instr.ldHAtHl.form = .ldRegHl .h ∧ Instr.ldAAtBc.form = .ldABc ∧ Instr.ldAAtDe.form = .ldADe
      ∧ (Instr.ldAAtN16 0xFFFF#16).form = .ldAAbs 0xFFFF#16 ∧ (Instr.ldhAAtA8 0x00#8).form = .ldAHigh 0x00#8
      ∧ Instr.ldAAtC.form = .ldAHighC
      ∧ [beside.hl, beside.bc, beside.de, 0xFFFF#16].all (fun a => !beside.irBlocked a) = true := by
  refine ⟨rfl, rfl, rfl, rfl, rfl, rfl, rfl, rfl, rfl, by decide⟩

theorem test_meets_stores :
    Instr.ldAtHlL.form = .ldHlReg .l ∧ (Instr.ldAtHlN8 0x00#8).form = .ldHlImm 0x00#8 ∧ Instr.ldAtBcA.form = .ldBcA
      ∧ Instr.ldAtDeA.form = .ldDeA ∧ (Instr.ldAtN16A 0x0000#16).form = .ldAbsA 0x0000#16
      ∧ (Instr.ldhAtA8A 0xFF#8).form = .ldHighA 0xFF#8 ∧ Instr.ldAtCA.form = .ldHighCA
      ∧ [pointers.hl, pointers.bc, pointers.de, 0x0000#16].all (fun a => !pointers.irBlocked a) = true := by
  refine ⟨rfl, rfl, rfl, rfl, rfl, rfl, rfl, by decide⟩

theorem test_meets_hl_step :
    beside.irBlocked beside.hl = false ∧ Instr.ldAtHlIncA.form = .ldHlIncA ∧ Instr.ldAtHlDecA.form = .ldHlDecA
      ∧ Instr.ldAAtHlInc.form = .ldAHlInc ∧ Instr.ldAAtHlDec.form = .ldAHlDec := ⟨by decide, rfl, rfl, rfl, rfl⟩

/-- A word at the top of the address space, whose second byte is at 0x0000. -/
theorem test_meets_load16 :
    (Instr.ldSpN16 0xFFFF#16).form = .ldPairImm .sp 0xFFFF#16 ∧ (Instr.ldAtN16Sp 0xFFFF#16).form = .ldAbsSp 0xFFFF#16
      ∧ pointers.irBlocked 0xFFFF#16 = false ∧ pointers.irBlocked (0xFFFF#16 + 1#16) = false ∧ Instr.ldSpHl.form = .ldSpHl
      ∧ (Instr.ldHlSpE8 0x80#8).form = .ldHlSpOff 0x80#8 := ⟨rfl, rfl, by decide, by decide, rfl, rfl⟩

/-- The stack around the window in infrared mode, and around the top of the address space. -/
theorem test_meets_push : Instr.pushAf.form = .push .af ∧ pushFree pointers ∧ pushFree { infraredState with sp := 0xA000#16 }
    ∧ pushFree { infraredState with sp := 0xC002#16 } ∧ pushFree { pointers with sp := 0x0001#16 } := by
  unfold pushFree; exact ⟨rfl, by decide⟩

theorem test_meets_pop : Instr.popAf.form = .pop .af ∧ popFree pointers ∧ popFree { infraredState with sp := 0x9FFE#16 }
    ∧ popFree { infraredState with sp := 0xC000#16 } ∧ popFree { pointers with sp := 0xFFFF#16 } := by
  unfold popFree; exact ⟨rfl, by decide⟩

theorem test_meets_stack_round_trip :
    pointers.mem.wf = true ∧ isRam (pointers.sp - 1#16) ∧ isRam (pointers.sp - 2#16)
      ∧ isRam (0xE001#16 - 1#16) ∧ isRam (0xE001#16 - 2#16)
      ∧ ({ pointers with sp := 0#16 } : State).sp = 0#16 ∧ isRam (0#16 - 2#16) := by
  unfold isRam; decide

theorem test_meets_add_adc :
    Instr.addAB.form = .aluReg .add .b ∧ Instr.addAAtHl.form = .aluHl .add ∧ (Instr.addAN8 0xFF#8).form = .aluImm .add 0xFF#8
      ∧ Instr.adcAA.form = .aluReg .adc .a ∧ Instr.adcAAtHl.form = .aluHl .adc ∧ (Instr.adcAN8 0x00#8).form = .aluImm .adc 0x00#8
      ∧ beside.irBlocked beside.hl = false := ⟨rfl, rfl, rfl, rfl, rfl, rfl, by decide⟩

theorem test_meets_sub_sbc_cp :
    Instr.subB.form = .aluReg .sub .b ∧ Instr.subAtHl.form = .aluHl .sub ∧ (Instr.subN8 0xFF#8).form = .aluImm .sub 0xFF#8
      ∧ Instr.sbcAA.form = .aluReg .sbc .a ∧ Instr.sbcAAtHl.form = .aluHl .sbc ∧ (Instr.sbcAN8 0x00#8).form = .aluImm .sbc 0x00#8
      ∧ Instr.cpB.form = .aluReg .cp .b ∧ Instr.cpAtHl.form = .aluHl .cp ∧ (Instr.cpN8 0x00#8).form = .aluImm .cp 0x00#8
      ∧ beside.irBlocked beside.hl = false := ⟨rfl, rfl, rfl, rfl, rfl, rfl, rfl, rfl, rfl, by decide⟩

theorem test_meets_logic8 :
    Instr.andB.form = .aluReg .and .b ∧ Instr.andAtHl.form = .aluHl .and ∧ (Instr.andN8 0xFF#8).form = .aluImm .and 0xFF#8
      ∧ Instr.xorA.form = .aluReg .xor .a ∧ Instr.xorAtHl.form = .aluHl .xor ∧ (Instr.xorN8 0x00#8).form = .aluImm .xor 0x00#8
      ∧ Instr.orB.form = .aluReg .or .b ∧ Instr.orAtHl.form = .aluHl .or ∧ (Instr.orN8 0x00#8).form = .aluImm .or 0x00#8
      ∧ beside.irBlocked beside.hl = false := ⟨rfl, rfl, rfl, rfl, rfl, rfl, rfl, rfl, rfl, by decide⟩

theorem test_meets_inc_dec :
    Instr.incL.form = .incReg .l ∧ Instr.incAtHl.form = .incAtHl ∧ Instr.decA.form = .decReg .a ∧ Instr.decAtHl.form = .decAtHl
      ∧ beside.irBlocked beside.hl = false := ⟨rfl, rfl, rfl, rfl, by decide⟩

theorem test_meets_accumulator :
    Instr.daa.form = .daa ∧ Instr.cpl.form = .cpl ∧ Instr.scf.form = .scf ∧ Instr.ccf.form = .ccf ∧ Instr.rlca.form = .rlca
      ∧ Instr.rrca.form = .rrca ∧ Instr.rla.form = .rla ∧ Instr.rra.form = .rra := ⟨rfl, rfl, rfl, rfl, rfl, rfl, rfl, rfl⟩

theorem test_meets_arith16 :
    Instr.addHlSp.form = .addHl .sp ∧ Instr.incSp.form = .incPair .sp ∧ Instr.decBc.form = .decPair .bc
      ∧ (Instr.addSpE8 0x80#8).form = .addSp 0x80#8 := ⟨rfl, rfl, rfl, rfl⟩

theorem test_meets_rotates :
    Instr.swapA.form = .cb (.rotReg .swap .a) ∧ (Instr.prefixCb 0x00#8).form = .cb (.rotReg .rlc .b)
      ∧ Instr.srlAtHl.form = .cb (.rotHl .srl) ∧ (Instr.prefixCb 0x06#8).form = .cb (.rotHl .rlc)
      ∧ beside.irBlocked beside.hl = false := ⟨rfl, rfl, rfl, rfl, by decide⟩

theorem test_meets_bits :
    Instr.bit0B.form = .cb (.bitReg 0 .b) ∧ Instr.bit7AtHl.form = .cb (.bitHl 7) ∧ Instr.res0B.form = .cb (.resReg 0 .b)
      ∧ Instr.res7AtHl.form = .cb (.resHl 7) ∧ Instr.set7A.form = .cb (.setReg 7 .a) ∧ Instr.set0AtHl.form = .cb (.setHl 0)
      ∧ (Instr.prefixCb 0xFF#8).form = .cb (.setReg 7 .a) ∧ beside.irBlocked beside.hl = false :=
  ⟨rfl, rfl, rfl, rfl, rfl, rfl, rfl, by decide⟩

theorem test_meets_jumps :
    (Instr.jpN16 0xFFFF#16).form = .jp 0xFFFF#16 ∧ (Instr.jpNzN16 0x0000#16).form = .jpCond .nz 0x0000#16 ∧ Instr.jpHl.form = .jpHl
      ∧ (Instr.jrE8 0x80#8).form = .jr 0x80#8 ∧ (Instr.jrCE8 0x7F#8).form = .jrCond .c 0x7F#8 := ⟨rfl, rfl, rfl, rfl, rfl⟩

theorem test_meets_calls :
    (Instr.callN16 0xC200#16).form = .call 0xC200#16 ∧ (Instr.callZN16 0xC200#16).form = .callCond .z 0xC200#16
      ∧ State.reset.cond .z = true ∧ State.reset.cond .nz = false ∧ (Instr.callNzN16 0xC200#16).form = .callCond .nz 0xC200#16
      ∧ Instr.rst38.form = .rst 7 ∧ pushFree State.reset := by
  unfold pushFree; exact ⟨rfl, rfl, by decide, by decide, rfl, rfl, by decide⟩

theorem test_meets_returns :
    Instr.ret.form = .ret ∧ Instr.retZ.form = .retCond .z ∧ State.reset.cond .z = true ∧ Instr.retNz.form = .retCond .nz
      ∧ State.reset.cond .nz = false ∧ Instr.reti.form = .reti ∧ popFree State.reset := by
  unfold popFree; exact ⟨rfl, rfl, by decide, rfl, by decide, rfl, by decide⟩

theorem test_meets_system :
    Instr.nop.form = .nop ∧ (Instr.stop 0x42#8).form = .stop 0x42#8 ∧ Instr.di.form = .di ∧ Instr.ei.form = .ei
      ∧ Instr.undefFD.form = .undefined 0xFD#8 := ⟨rfl, rfl, rfl, rfl, rfl⟩

theorem test_meets_halt :
    Instr.halt.form = .halt ∧ (atReset true 0x01#8 0x01#8 []).ime = true
      ∧ (atReset false 0xE0#8 0xE0#8 []).ie &&& (atReset false 0xE0#8 0xE0#8 []).mem.read 0xFF0F &&& 0x1F#8 = 0#8
      ∧ (atReset false 0x10#8 0x10#8 []).ime = false
      ∧ (atReset false 0x10#8 0x10#8 []).ie &&& (atReset false 0x10#8 0x10#8 []).mem.read 0xFF0F &&& 0x1F#8 ≠ 0#8 :=
  ⟨rfl, rfl, by decide, rfl, by decide⟩

/-- The two ends of the window, the addresses beside it, and HALT's condition. -/
theorem test_meets_traps :
    infraredState.irBlocked 0xA000#16 = true ∧ infraredState.irBlocked 0xBFFF#16 = true
      ∧ infraredState.irBlocked 0x9FFF#16 = false ∧ infraredState.irBlocked 0xC000#16 = false
      ∧ (Instr.ldAAtN16 0xBFFF#16).form.accesses infraredState = [0xBFFF#16]
      ∧ Instr.halt.form = .halt ∧ (atReset false 0x10#8 0x10#8 []).pend ≠ 0#8 ∧ Instr.halt.form.accesses infraredState = []
      ∧ runsInstr { infraredState with pc := 0xA000#16 } ∧ ({ infraredState with pc := 0xA000#16 } : State).irBlocked 0xA000#16 = true :=
  ⟨by decide, by decide, by decide, by decide, by decide, rfl, by decide, by decide, ⟨rfl, rfl, .inl rfl⟩, by decide⟩

/-- An instruction's first byte just below the infrared window. -/
def besideInfrared (pc : Addr) (b : Byte) : State := { withBytes [(pc, b)] infraredState with pc := pc }

/-- A two-byte instruction at 0x9FFF, a three-byte one at 0x9FFE: the last operand byte is in the window. -/
theorem test_meets_traps_fetch :
    (runsInstr (besideInfrared 0x9FFF#16 0x3E#8)
        ∧ 1 < instrLength ((besideInfrared 0x9FFF#16 0x3E#8).busRead 0x9FFF#16)
        ∧ (besideInfrared 0x9FFF#16 0x3E#8).irBlocked (0x9FFF#16 + BitVec.ofNat 16 1) = true)
      ∧ (runsInstr (besideInfrared 0x9FFE#16 0xC3#8)
        ∧ 2 < instrLength ((besideInfrared 0x9FFE#16 0xC3#8).busRead 0x9FFE#16)
        ∧ (besideInfrared 0x9FFE#16 0xC3#8).irBlocked (0x9FFE#16 + BitVec.ofNat 16 2) = true) :=
  ⟨⟨⟨rfl, rfl, .inl rfl⟩, by decide⟩, ⟨⟨rfl, rfl, .inl rfl⟩, by decide⟩⟩

theorem test_meets_read_after_write_storage :
    isRam 0x8000#16 ∧ isRam 0x9FFF#16 ∧ isRam 0xC000#16 ∧ isRam 0xFE9F#16 ∧ isRam 0xFF00#16 ∧ isRam 0xFF50#16
      ∧ isRam 0xFFFE#16 := by
  unfold isRam; decide

theorem test_meets_read_after_write :
    State.reset.mem.wf = true ∧ State.reset.cart = none ∧ inRamWindow 0xA000#16 ∧ inRamWindow 0xBFFF#16
      ∧ (0xDDFF#16).toNat ≤ 0xDDFF ∧ 0xFEA0 ≤ (0xFEA0#16).toNat ∧ (0xFEFF#16).toNat ≤ 0xFEFF
      ∧ backing 0xFFFF#16 ≠ backing 0xFFFE#16 ∧ backing 0x0000#16 ≠ backing 0xFF50#16 ∧ 0x00FF < (0x0100#16).toNat := by
  unfold inRamWindow
  refine ⟨by decide, rfl, by decide, by decide, by decide, by decide, by decide, by decide, by decide, by decide⟩

/-- Three banks round up to four. -/
theorem test_meets_rom_banks :
    romBankCount { size := 0x8001, bytes := [] } = 4 ∧ romBankCount { size := 0x150, bytes := [] } = 2
      ∧ (0x3FFF#16).toNat ≤ 0x3FFF ∧ 0x4000 ≤ (0x4000#16).toNat ∧ (0x7FFF#16).toNat ≤ 0x7FFF := by decide

theorem test_meets_controller_writes : (0x0000#16).toNat ≤ 0x7FFF ∧ (0x7FFF#16).toNat ≤ 0x7FFF := by decide

/-- Each controller, the ends of the window, the clock's registers. -/
theorem test_meets_cartridge_ram :
    inRamWindow 0xA000#16 ∧ inRamWindow 0xBFFF#16
      ∧ [Mbc.fixed, mbc1, mbc2, mbc3 RtcSet.zero, mbc5, huc1].map Mbc.kind = [.fixed, .mbc1, .mbc2, .mbc3, .mbc5, .huc1]
      ∧ rtcRegOfSel 0x08#8 = some .s ∧ rtcRegOfSel 0x04#8 = none ∧ (0x03#8).toNat ≤ 3 := by
  unfold inRamWindow; decide

theorem test_meets_clock :
    (0x07#8).toNat < 8 ∧ 12 < (0x0D#8).toNat ∧ RtcReg.dh ≠ .dl ∧ RtcSet.zero.halt = false
      ∧ ({ RtcSet.zero with halt := true } : RtcSet).halt = true
      ∧ (withCart (mbc3 RtcSet.zero) ramAndClock 0x03#8 State.reset).cart.map (fun c => (c.features.rtc, c.mbc.kind))
        = some (true, .mbc3)
      ∧ (withCart (mbc3 RtcSet.zero) ramOnly 0x03#8 State.reset).cart.map (fun c => c.features.rtc) = some false := by decide

/-- The length at its bound, an unsupported type byte, and the first and last rows of the table. -/
theorem test_meets_load_cartridge :
    0x14F < 0x150 ∧ (∀ row ∈ typeTable, row.1 ≠ 0x04#8) ∧ (∀ row ∈ typeTable, row.1 ≠ 0xFE#8)
      ∧ typeRow 0x00#8 .fixed false false false false ∈ typeTable ∧ typeRow 0xFF#8 .huc1 true true false false ∈ typeTable
      ∧ Cells.readZ [(0x147, 0xFF#8)] 0x147 = 0xFF#8 := by decide

/-- The last cell of MBC2's RAM, from an image that reaches it. -/
theorem test_meets_load_ram :
    511 < Cartridge.cramSize { blankCartridge with mbc := mbcReset CartInit.none .mbc2 }
      ∧ (List.replicate 512 0x5A#8)[511]? = some 0x5A#8 :=
  ⟨by decide, by rw [List.getElem?_replicate]; rfl⟩

/-- One byte for each region of the bus storage. -/
def fiveImages : InitMem :=
  { InitMem.none with vram := [0x11#8], wram := [0x22#8], oam := [0x33#8], io := [0x44#8], hram := [0x55#8] }

/-- The first byte of each image, at its region's first address, and MBC2's four-bit cells (R48, R49, R85). -/
theorem test_reset_images :
    [0x8000#16, 0xC000#16, 0xE000#16, 0xFE00#16, 0xFF00#16, 0xFF80#16].map (hostReset false fiveImages State.reset).busRead
        = [0x11#8, 0x22#8, 0x22#8, 0x33#8, 0x44#8, 0x55#8]
      ∧ (cartReset { CartInit.none with cram := [0x5A#8] } { blankCartridge with mbc := mbc2 }).cram.readZ 0 = 0x0A#8 := by
  decide

theorem test_meets_host_actions :
    (0xFF00 ≤ (0xFF7F#16).toNat ∧ (0xFF7F#16).toNat ≤ 0xFF7F ∧ 0xFF7F#16 ≠ 0xFF50#16) ∧ (0xFEFF#16).toNat < 0xFF00
      ∧ 0xFF7F < (0xFF80#16).toNat ∧ (0x8000 ≤ (0x9FFF#16).toNat ∧ (0x9FFF#16).toNat ≤ 0x9FFF)
      ∧ (0xFE00 ≤ (0xFE9F#16).toNat ∧ (0xFE9F#16).toNat ≤ 0xFE9F)
      ∧ ¬ ((0x8000 ≤ (0xA000#16).toNat ∧ (0xA000#16).toNat ≤ 0x9FFF) ∨ (0xFE00 ≤ (0xA000#16).toNat ∧ (0xA000#16).toNat ≤ 0xFE9F)) := by
  decide


end Sys2Proof.Tests
end

section
/-! PROOF. A register pair is a view of its two bytes (R13, R20, R21). -/

namespace Sys2Proof.Machine

/-- `pack` as a shift and an or (R13). -/
theorem pack_eq_or_shift (lo hi : Byte) : pack lo hi = lo.setWidth 16 ||| (hi.setWidth 16 <<< 8) := by
  apply BitVec.eq_of_getLsbD_eq
  intro i hi'
  rw [pack_getLsbD]
  by_cases h : i < 8
  · simp [h, hi']
  · have hlo : lo.getLsbD i = false := BitVec.getLsbD_of_ge lo i (by omega)
    simp [h, hi', hlo]

/-- The low byte of a word as a number (R13). -/
theorem lowByte_toNat (w : Addr) : (lowByte w).toNat = w.toNat % 256 := by simp [lowByte]

/-- The high byte of a word as a number (R13). -/
theorem highByte_toNat (w : Addr) : (highByte w).toNat = w.toNat / 256 := by
  have hw := w.isLt
  simp only [highByte, BitVec.extractLsb'_toNat, Nat.shiftRight_eq_div_pow]
  omega

/-- A word whose low byte is written under the mask of F (R20, R27). -/
theorem pack_maskF (w : Addr) : pack (lowByte w &&& 0xF0#8) (highByte w) = w &&& 0xFFF0#16 := by
  have hff : highByte w &&& 0xFF#8 = highByte w := BitVec.and_allOnes
  calc pack (lowByte w &&& 0xF0#8) (highByte w)
      = pack (lowByte w &&& 0xF0#8) (highByte w &&& 0xFF#8) := by rw [hff]
    _ = pack (lowByte w) (highByte w) &&& pack 0xF0#8 0xFF#8 := BitVec.and_append.symm
    _ = w &&& 0xFFF0#16 := by rw [pack_split]; rfl

/-- A stack pair reads back as written, AF under its mask (R21). -/
theorem State.stackPair_setStackPair_self (s : State) (q : StackPair) (w : Addr) :
    (s.setStackPair q w).stackPair q = if q = .af then w &&& 0xFFF0#16 else w := by
  cases q
  case af => exact pack_maskF w
  all_goals exact pack_split w

/-- A write of a stack pair leaves the others alone (R21). -/
theorem State.stackPair_setStackPair_ne (s : State) {q q' : StackPair} (w : Addr) (h : q' ≠ q) :
    (s.setStackPair q w).stackPair q' = s.stackPair q' := by
  cases q <;> cases q' <;> try rfl
  all_goals exact absurd rfl h

/-- Settles O1: pack and split bit by bit, then each pair by its own read and write. -/
theorem pairsAreViews : Obligations.PairsAreViews := by
  unfold Obligations.PairsAreViews
  refine ⟨pack_eq_or_shift, fun w => ⟨lowByte_toNat w, highByte_toNat w, pack_split w⟩,
    fun s => ⟨rfl, rfl, rfl, rfl⟩, fun s w => ⟨rfl, rfl, rfl, rfl⟩, ?_⟩
  intro s q q' w
  exact ⟨s.stackPair_setStackPair_self q w, s.stackPair_setStackPair_ne w⟩

end Sys2Proof.Machine
end

section
/-! PROOF. A byte store, by what answers at its address (R56, R58): the storage it leaves alone, and the bus
addresses that read as before. -/

namespace Sys2Proof.Machine

/-! ## What answers at an address -/

/-- The addresses the cartridge answers at (R56). -/
theorem backing_eq_cart_iff (a : Addr) :
    backing a = .cart ↔ a.toNat ≤ 0x7FFF ∨ Claims.inRamWindow a := by
  unfold backing Claims.inRamWindow
  dsimp only
  repeat' split
  all_goals simp only [reduceCtorEq, false_iff, true_iff]; omega

/-- IE answers at 0xFFFF alone (R56). -/
theorem backing_eq_ie_iff (a : Addr) : backing a = .ie ↔ a = 0xFFFF#16 := by
  have hlt := a.isLt
  rw [← BitVec.toNat_inj, show (0xFFFF#16).toNat = 65535 from rfl]
  unfold backing
  dsimp only
  repeat' split
  all_goals simp only [reduceCtorEq, false_iff, true_iff]; omega

/-! ## A store by its backing -/

theorem busWrite_cart {s : State} {a : Addr} (v : Byte) (h : backing a = .cart) :
    s.busWrite a v = { s with cart := s.cart.map (fun c => cartWrite c a v) } := by
  simp only [State.busWrite, h]

theorem busWrite_store {s : State} {a : Addr} {key : Nat} (v : Byte) (h : backing a = .store key) :
    s.busWrite a v = { s with mem := s.mem.write key v, bootMapped := s.bootAfterWrite a v } := by
  simp only [State.busWrite, h]

theorem busWrite_unusable {s : State} {a : Addr} (v : Byte) (h : backing a = .unusable) :
    s.busWrite a v = s := by
  simp only [State.busWrite, h]

theorem busWrite_ie {s : State} {a : Addr} (v : Byte) (h : backing a = .ie) :
    s.busWrite a v = { s with ie := v } := by
  simp only [State.busWrite, h]

/-! ## The storage a store leaves alone -/

/-- A store leaves every byte of storage but its own alone. -/
theorem mem_read_busWrite (s : State) {a : Addr} {key : Nat} (v : Byte) (h : backing a ≠ .store key) :
    (s.busWrite a v).mem.read key = s.mem.read key := by
  cases hb : backing a with
  | cart => rw [busWrite_cart v hb]
  | store key' =>
    rw [busWrite_store v hb]
    exact Memory.read_write_ne _ v (fun hk => h (by rw [hb, hk]))
  | unusable => rw [busWrite_unusable v hb]
  | ie => rw [busWrite_ie v hb]

/-- A store leaves IE alone but at 0xFFFF (R69). -/
theorem ie_busWrite (s : State) {a : Addr} (v : Byte) (h : a ≠ 0xFFFF#16) : (s.busWrite a v).ie = s.ie := by
  cases hb : backing a with
  | cart => rw [busWrite_cart v hb]
  | store key => rw [busWrite_store v hb]
  | unusable => rw [busWrite_unusable v hb]
  | ie => exact absurd ((backing_eq_ie_iff a).mp hb) h

/-- A store outside the cartridge's windows leaves the cartridge alone (R56). -/
theorem cart_busWrite (s : State) {a : Addr} (v : Byte) (h : backing a ≠ .cart) :
    (s.busWrite a v).cart = s.cart := by
  cases hb : backing a with
  | cart => exact absurd hb h
  | store key => rw [busWrite_store v hb]
  | unusable => rw [busWrite_unusable v hb]
  | ie => rw [busWrite_ie v hb]

/-- A store leaves BOOT_MAPPED alone but at 0xFF50 (R63). -/
theorem bootMapped_busWrite (s : State) {a : Addr} (v : Byte) (h : a ≠ 0xFF50#16) :
    (s.busWrite a v).bootMapped = s.bootMapped := by
  cases hb : backing a with
  | cart => rw [busWrite_cart v hb]
  | store key => rw [busWrite_store v hb]; simp [State.bootAfterWrite, h]
  | unusable => rw [busWrite_unusable v hb]
  | ie => rw [busWrite_ie v hb]

/-! ## The cartridge's windows after a store into cartridge RAM -/

/-- A store into the RAM window leaves alone which cell an address shows (R82, R85, R88, R93, R96). -/
theorem cramOffset_cartRamWrite (c : Cartridge) (a b : Addr) (v : Byte) :
    (cartRamWrite c a v).cramOffset b = c.cramOffset b := by
  obtain ⟨off, -, hw⟩ | ⟨r, t, hm, hw⟩ | hw := cartRamWrite_cases c a v
  · rw [hw]; rfl
  · rw [hw]; simp [Cartridge.cramOffset, Cartridge.cramSize, ramOff, hm]
  · rw [hw]

/-- A store into the RAM window leaves the ROM windows alone (R75). -/
theorem cartRead_cartRamWrite_rom (c : Cartridge) (a : Addr) {b : Addr} (v : Byte) (hb : b.toNat ≤ 0x7FFF) :
    cartRead (cartRamWrite c a v) b = cartRead c b := by
  obtain ⟨off, -, hw⟩ | ⟨r, t, hm, hw⟩ | hw := cartRamWrite_cases c a v
  · rw [hw]; simp only [cartRead, hb, if_true]
  · rw [hw]; simp only [cartRead, hb, if_true, hm, Mbc.lowBank, Mbc.highBank]
  · rw [hw]

/-- A write of the LIVE clock is not seen by a read, which gives the LATCHED one (R88). -/
theorem cartRamRead_live {c : Cartridge} {r : Mbc3} (hm : c.mbc = .mbc3 r) (t : RtcSet) (b : Addr) :
    cartRamRead { c with mbc := .mbc3 { r with live := t } } b = cartRamRead c b := by
  have hoff : ({ c with mbc := .mbc3 { r with live := t } } : Cartridge).cramOffset b = c.cramOffset b := by
    simp [Cartridge.cramOffset, Cartridge.cramSize, ramOff, hm]
  simp only [cartRamRead, hoff, Cartridge.cramView, Cartridge.rtcSelected, hm]
  cases c.cramOffset b with
  | some off => rfl
  | none =>
    by_cases hr : r.ramg = true ∧ c.features.rtc = true
    · simp only [if_pos hr]
      cases rtcRegOfSel r.sel <;> rfl
    · simp only [if_neg hr]

/-- A store into the RAM window is seen only where the same cell shows (R76). -/
theorem cartRamRead_cartRamWrite (c : Cartridge) {a b : Addr} (v : Byte)
    (h : ∀ off, c.cramOffset a = some off → c.cramOffset b ≠ some off) :
    cartRamRead (cartRamWrite c a v) b = cartRamRead c b := by
  obtain ⟨off, ha, hw⟩ | ⟨r, t, hm, hw⟩ | hw := cartRamWrite_cases c a v
  · have hoff : (cartRamWrite c a v).cramOffset b = c.cramOffset b := cramOffset_cartRamWrite c a b v
    rw [hw] at hoff ⊢
    simp only [cartRamRead, hoff]
    cases hb : c.cramOffset b with
    | none => rfl
    | some off' =>
      have hne : off' ≠ off := fun e => h off ha (by rw [hb, e])
      exact congrArg c.cramView (readCells_writeCells_ne zeroByte c.cram (c.cramStored v) hne)
  · rw [hw, cartRamRead_live hm]
  · rw [hw]

/-! ## The bus after a store -/

/-- The boot ROM answers as before a store that is not to 0xFF50, and never above 0x00FF (R63). -/
theorem bootReads_busWrite (s : State) {a b : Addr} (v : Byte) (h : a ≠ 0xFF50#16 ∨ 0x00FF < b.toNat) :
    (s.busWrite a v).bootReads b = s.bootReads b := by
  rcases h with ha | hb
  · rw [State.bootReads, State.bootReads, bootMapped_busWrite s v ha]
  · have hd : decide (b.toNat ≤ 0x00FF) = false := decide_eq_false (by omega)
    rw [State.bootReads, State.bootReads, hd, Bool.and_false, Bool.and_false]

/-- What the bus reads at an address: BOOT_MAPPED, and then what answers there (R57). -/
theorem busRead_congr {s t : State} {b : Addr} (hboot : t.bootReads b = s.bootReads b)
    (hcart : backing b = .cart → t.cart.map (cartRead · b) = s.cart.map (cartRead · b))
    (hstore : ∀ key, backing b = .store key → t.mem.read key = s.mem.read key)
    (hie : backing b = .ie → t.ie = s.ie) : t.busRead b = s.busRead b := by
  simp only [State.busRead, hboot]
  split
  · rfl
  · cases hb : backing b with
    | cart =>
      have := hcart hb
      cases hs : s.cart <;> cases ht : t.cart <;> simp_all
    | store key => exact hstore key hb
    | unusable => rfl
    | ie => exact hie hb

/-- The windows of the cartridge after a store into its RAM window, by the cell the two addresses show. -/
theorem cartRead_busWrite_ram (s : State) {a b : Addr} (v : Byte) (ha : Claims.inRamWindow a)
    (hb : backing b = .cart) (h : s.storeReaches a b = false) :
    (s.busWrite a v).cart.map (cartRead · b) = s.cart.map (cartRead · b) := by
  have hca : backing a = .cart := (backing_eq_cart_iff a).mpr (.inr ha)
  have hlow : ¬ a.toNat ≤ 0x7FFF := by unfold Claims.inRamWindow at ha; omega
  rw [busWrite_cart v hca]
  cases hc : s.cart with
  | none => rfl
  | some c =>
    simp only [Option.map_some, cartWrite, if_neg hlow]
    rcases (backing_eq_cart_iff b).mp hb with hrom | hram
    · rw [cartRead_cartRamWrite_rom c a v hrom]
    · have hcell : ∀ off, c.cramOffset a = some off → c.cramOffset b ≠ some off := by
        intro off e e'
        unfold Claims.inRamWindow at hram
        simp [State.storeReaches, hca, hlow, hram, State.cramCell, hc, e, e'] at h
      have h3 : ¬ b.toNat ≤ 0x3FFF := by unfold Claims.inRamWindow at hram; omega
      have h7 : ¬ b.toNat ≤ 0x7FFF := by unfold Claims.inRamWindow at hram; omega
      simp only [cartRead, if_neg h3, if_neg h7, cartRamRead_cartRamWrite c v hcell]

/-- An address a store does not reach reads as before (R57 to R59, R63). -/
theorem busRead_busWrite (s : State) {a b : Addr} (v : Byte) (h : s.storeReaches a b = false) :
    (s.busWrite a v).busRead b = s.busRead b := by
  cases ha : backing a with
  | cart =>
    have hFF : a ≠ 0xFF50#16 := by rintro rfl; cases ha
    refine busRead_congr (bootReads_busWrite s v (.inl hFF)) (fun hb => ?_) (fun key _ => ?_) (fun _ => ?_)
    · rcases (backing_eq_cart_iff a).mp ha with hlow | hram
      · simp [State.storeReaches, ha, hlow, hb] at h
      · exact cartRead_busWrite_ram s v hram hb h
    · rw [busWrite_cart v ha]
    · rw [busWrite_cart v ha]
  | store key =>
    simp only [State.storeReaches, ha, Bool.or_eq_false_iff, beq_eq_false_iff_ne, Bool.and_eq_false_iff,
      decide_eq_false_iff_not, Nat.not_le] at h
    obtain ⟨hkey, hboot⟩ := h
    refine busRead_congr (bootReads_busWrite s v hboot) (fun _ => ?_) (fun k hb => ?_) (fun _ => ?_)
    · rw [busWrite_store v ha]
    · exact mem_read_busWrite s v (fun e => hkey (by rw [hb, ← e, ha]))
    · rw [busWrite_store v ha]
  | unusable => rw [busWrite_unusable v ha]
  | ie =>
    have hFF : a ≠ 0xFF50#16 := by rintro rfl; cases ha
    refine busRead_congr (bootReads_busWrite s v (.inl hFF)) (fun _ => ?_) (fun key _ => ?_) (fun hb => ?_)
    · rw [busWrite_ie v ha]
    · rw [busWrite_ie v ha]
    · simp [State.storeReaches, ha, (backing_eq_ie_iff b).mp hb] at h

/-- A store outside the controller's registers leaves alone which cell an address shows. -/
theorem cramCell_busWrite (s : State) {a : Addr} (b : Addr) (v : Byte) (h : 0x7FFF < a.toNat) :
    (s.busWrite a v).cramCell b = s.cramCell b := by
  by_cases ha : backing a = .cart
  · rw [busWrite_cart v ha]
    cases hc : s.cart with
    | none => simp [State.cramCell, hc]
    | some c => simp [State.cramCell, hc, cartWrite, Nat.not_le.mpr h, cramOffset_cartRamWrite]
  · rw [State.cramCell, State.cramCell, cart_busWrite s v ha]

/-- What the stores after a store reach does not change, for an address that store does not reach: a write of
a controller register may change which cells show, but it reaches every address the cartridge answers at. -/
theorem storeReaches_busWrite (s : State) {a b : Addr} (a' : Addr) (v : Byte) (h : s.storeReaches a b = false) :
    (s.busWrite a v).storeReaches a' b = s.storeReaches a' b := by
  by_cases hlow : a.toNat ≤ 0x7FFF
  · have ha : backing a = .cart := (backing_eq_cart_iff a).mpr (.inl hlow)
    have hb : ¬ (0xA000 ≤ b.toNat ∧ b.toNat ≤ 0xBFFF) := fun hram =>
      absurd ((backing_eq_cart_iff b).mpr (.inr hram)) (by simpa [State.storeReaches, ha, hlow] using h)
    simp only [State.storeReaches, decide_eq_false hb, Bool.false_and]
  · simp only [State.storeReaches, cramCell_busWrite s _ v (Nat.not_le.mp hlow)]

end Sys2Proof.Machine
end

section
/-! PROOF. The frame of an instruction: its next state is reached by updates that keep what its form does not
write, and by byte stores at exactly the addresses its form stores to, in order (R14, R15, R25). -/

namespace Sys2Proof.Machine

/-! ## Updates under a form -/

/-- The update from `s` to `t` keeps the registers and the control state that the form `f` does not write, and
stores nothing. -/
structure Keeps (f : Form) (s t : State) : Prop where
  reg : ∀ r, r ∉ f.footprint.regs → t.reg r = s.reg r := by intro r _; cases r <;> rfl
  sp : f.footprint.sp = false → t.sp = s.sp := by simp
  pc : f.footprint.pc = false → t.pc = s.pc := by simp
  ime : f ≠ .di → f ≠ .reti → t.ime = s.ime := by simp
  imePending : f ≠ .di → f ≠ .reti → f ≠ .ei → t.imePending = s.imePending := by simp
  mode : f ≠ .halt → (∀ n, f ≠ .stop n) → (∀ b, f ≠ .undefined b) → t.mode = s.mode := by simp
  fault : t.fault = s.fault := by simp
  mem : t.mem = s.mem := by simp
  ie : t.ie = s.ie := by simp
  cart : t.cart = s.cart := by simp
  bootMapped : t.bootMapped = s.bootMapped := by simp

namespace Keeps

variable {f : Form} {s u : State}

theorem refl : Keeps f s s := {}

theorem trans {t : State} (h : Keeps f s u) (h' : Keeps f u t) : Keeps f s t where
  reg r hr := (h'.reg r hr).trans (h.reg r hr)
  sp hf := (h'.sp hf).trans (h.sp hf)
  pc hf := (h'.pc hf).trans (h.pc hf)
  ime h1 h2 := (h'.ime h1 h2).trans (h.ime h1 h2)
  imePending h1 h2 h3 := (h'.imePending h1 h2 h3).trans (h.imePending h1 h2 h3)
  mode h1 h2 h3 := (h'.mode h1 h2 h3).trans (h.mode h1 h2 h3)
  fault := h'.fault.trans h.fault
  mem := h'.mem.trans h.mem
  ie := h'.ie.trans h.ie
  cart := h'.cart.trans h.cart
  bootMapped := h'.bootMapped.trans h.bootMapped

theorem tick (n : Nat) (h : Keeps f s u) : Keeps f s (u.tick n) := h.trans {}

theorem writeFlags {z n h' c : Bool} (h : Keeps f s u) : Keeps f s (u.writeFlags z n h' c) := h.trans {}

theorem setSp {w : Addr} (hf : f.footprint.sp = true) (h : Keeps f s u) : Keeps f s { u with sp := w } :=
  h.trans { sp := fun h' => by simp [hf] at h' }

theorem jump {w : Addr} (hf : f.footprint.pc = true) (h : Keeps f s u) : Keeps f s (u.jump w) :=
  h.trans { pc := fun h' => by simp [hf] at h' }

theorem setReg {r : Reg8} {v : Byte} (hf : r ∈ f.footprint.regs) (h : Keeps f s u) : Keeps f s (u.setReg r v) :=
  h.trans { reg := fun r' hr => u.reg_setReg_ne v (fun e => hr (e ▸ hf)) }

theorem setBc {w : Addr} (hb : .b ∈ f.footprint.regs) (hc : .c ∈ f.footprint.regs) (h : Keeps f s u) :
    Keeps f s (u.setBc w) :=
  (h.setReg (r := .c) (v := lowByte w) hc).setReg (r := .b) (v := highByte w) hb

theorem setDe {w : Addr} (hd : .d ∈ f.footprint.regs) (he : .e ∈ f.footprint.regs) (h : Keeps f s u) :
    Keeps f s (u.setDe w) :=
  (h.setReg (r := .e) (v := lowByte w) he).setReg (r := .d) (v := highByte w) hd

theorem setHl {w : Addr} (hh : .h ∈ f.footprint.regs) (hl : .l ∈ f.footprint.regs) (h : Keeps f s u) :
    Keeps f s (u.setHl w) :=
  (h.setReg (r := .l) (v := lowByte w) hl).setReg (r := .h) (v := highByte w) hh

theorem setAf {w : Addr} (ha : .a ∈ f.footprint.regs) (h : Keeps f s u) : Keeps f s (u.setAf w) :=
  (h.trans (t := u.setF (lowByte w)) {}).setReg (r := .a) (v := highByte w) ha

theorem setPair {p : Pair} {w : Addr} (hr : p.halves ⊆ f.footprint.regs) (hsp : p = .sp → f.footprint.sp = true)
    (h : Keeps f s u) : Keeps f s (u.setPair p w) := by
  cases p with
  | bc => exact h.setBc (hr (by decide)) (hr (by decide))
  | de => exact h.setDe (hr (by decide)) (hr (by decide))
  | hl => exact h.setHl (hr (by decide)) (hr (by decide))
  | sp => exact h.setSp (hsp rfl)

theorem setStackPair {q : StackPair} {w : Addr} (hr : q.halves ⊆ f.footprint.regs) (h : Keeps f s u) :
    Keeps f s (u.setStackPair q w) := by
  cases q with
  | bc => exact h.setBc (hr (by decide)) (hr (by decide))
  | de => exact h.setDe (hr (by decide)) (hr (by decide))
  | hl => exact h.setHl (hr (by decide)) (hr (by decide))
  | af => exact h.setAf (hr (by decide))

theorem aluApply {op : AluOp} {v : Byte} (hr : op.destination ⊆ f.footprint.regs) (h : Keeps f s u) :
    Keeps f s (u.aluApply op v) := by
  cases op
  case cp => exact h.writeFlags
  all_goals exact (h.setReg (r := .a) (hr (by decide))).writeFlags

end Keeps

/-! ## Stores between updates -/

/-- The state `t` is reached from `s` by updates under the form `f` and by byte stores at the addresses of the
list, in its order. -/
inductive Frame (f : Form) : List Addr → State → State → Prop where
  | refl (s : State) : Frame f [] s s
  | update {as : List Addr} {s u t : State} (h : Keeps f s u) (h' : Frame f as u t) : Frame f as s t
  | store {as : List Addr} {s t : State} (a : Addr) (v : Byte) (h : Frame f as (s.busWrite a v) t) :
    Frame f (a :: as) s t

/-- A store leaves the 8-bit registers alone. -/
theorem reg_busWrite (s : State) (a : Addr) (v : Byte) (r : Reg8) : (s.busWrite a v).reg r = s.reg r := by
  cases r <;> simp [State.reg]

namespace Frame

variable {f : Form} {as : List Addr} {s t : State}

/-- What every update under the form and every store of the frame keeps, the frame keeps. -/
theorem keep {α : Type} (g : State → α) (hupdate : ∀ u v, Keeps f u v → g v = g u)
    (hstore : ∀ a ∈ as, ∀ u v, g (State.busWrite u a v) = g u) (h : Frame f as s t) : g t = g s := by
  induction h with
  | refl s => rfl
  | update hk _ ih => exact (ih hstore).trans (hupdate _ _ hk)
  | store a v _ ih =>
    exact (ih fun a' ha' => hstore a' (List.mem_cons_of_mem a ha')).trans (hstore a List.mem_cons_self _ v)

/-- An address that no store of the frame reaches, seen from the state before, reads as before. -/
theorem busRead (b : Addr) (h : Frame f as s t) (hb : ∀ a ∈ as, s.storeReaches a b = false) :
    t.busRead b = s.busRead b := by
  induction h with
  | refl s => rfl
  | @update as s u t hk _ ih =>
    have hreach : ∀ a, u.storeReaches a b = s.storeReaches a b := fun a => by
      simp only [State.storeReaches, State.cramCell, hk.cart]
    refine (ih fun a ha => (hreach a).trans (hb a ha)).trans (busRead_congr ?_ ?_ ?_ ?_)
    · simp only [State.bootReads, hk.bootMapped]
    · exact fun _ => by rw [hk.cart]
    · exact fun _ _ => by rw [hk.mem]
    · exact fun _ => hk.ie
  | store a v _ ih =>
    have ha := hb a List.mem_cons_self
    refine (ih fun a' ha' => ?_).trans (busRead_busWrite _ v ha)
    rw [storeReaches_busWrite _ a' v ha]
    exact hb a' (List.mem_cons_of_mem a ha')

/-- A frame without stores keeps the whole storage. -/
theorem storage_of_no_store (h : Frame f [] s t) :
    t.mem = s.mem ∧ t.ie = s.ie ∧ t.cart = s.cart ∧ t.bootMapped = s.bootMapped :=
  ⟨h.keep State.mem (fun _ _ k => k.mem) (by simp), h.keep State.ie (fun _ _ k => k.ie) (by simp),
    h.keep State.cart (fun _ _ k => k.cart) (by simp), h.keep State.bootMapped (fun _ _ k => k.bootMapped) (by simp)⟩

end Frame

/-! ## The frame of each shared meaning -/

section

variable {f : Form} {s t : State}

/-- An update under the form. -/
theorem frame_next {u : State} (h : (Host.Outcome.next u : Result) = .next t) (hk : Keeps f s u) : Frame f [] s t := by
  rw [next_inj h]; exact .update hk (.refl u)

theorem readByte_frame {a : Addr} {k : Byte → Result} (h : readByte s a k = .next t)
    (hk : ∀ v, k v = .next t → Frame f [] s t) : Frame f [] s t := hk _ (readByte_next h).2

theorem writeByte_frame {a : Addr} {v : Byte} {k : State → Result} (h : writeByte s a v k = .next t)
    (hk : ∀ u, k u = .next t → Frame f [] u t) : Frame f [a] s t := .store a v (hk _ (writeByte_next h).2)

theorem readHl_frame {k : Byte → Result} (h : readHl s k = .next t)
    (hk : ∀ v, k v = .next t → Frame f [] s t) : Frame f [] s t := readByte_frame h hk

theorem writeHl_frame {v : Byte} {k : State → Result} (h : writeHl s v k = .next t)
    (hk : ∀ u, k u = .next t → Frame f [] u t) : Frame f [s.hl] s t := writeByte_frame h hk

theorem modifyHl_frame {g : Byte → Byte} {k : Byte → State → Result} (h : modifyHl s g k = .next t)
    (hk : ∀ v u, k v u = .next t → Frame f [] u t) : Frame f [s.hl] s t := .store s.hl _ (hk _ _ (modifyHl_next h).2)

theorem writeWord_frame {a w : Addr} {k : State → Result} (h : writeWord s a w k = .next t)
    (hk : ∀ u, k u = .next t → Frame f [] u t) : Frame f [a, a + 1#16] s t :=
  .store a _ (.store (a + 1#16) _ (hk _ (writeWord_next h).2.2))

theorem push_frame {w : Addr} {k : State → Result} (hsp : f.footprint.sp = true) (h : push w s k = .next t)
    (hk : ∀ u, k u = .next t → Frame f [] u t) : Frame f [s.sp - 1#16, s.sp - 2#16] s t :=
  .update (Keeps.refl.setSp hsp) (.store (s.sp - 1#16) _ (.store (s.sp - 2#16) _ (hk _ (push_next h).2.2)))

theorem pop_frame {k : Addr → State → Result} (hsp : f.footprint.sp = true) (h : pop s k = .next t)
    (hk : ∀ w u, k w u = .next t → Frame f [] u t) : Frame f [] s t :=
  .update (Keeps.refl.setSp hsp) (hk _ _ (pop_next h).2.2)

theorem loadA_frame {a : Addr} {n : Nat} (hf : .a ∈ f.footprint.regs) (h : loadA a n s = .next t) :
    Frame f [] s t := readByte_frame h fun _ e => frame_next e ((Keeps.refl.setReg (r := .a) hf).tick n)

theorem storeA_frame {a : Addr} {n : Nat} (h : storeA a n s = .next t) : Frame f [a] s t :=
  writeByte_frame h fun _ e => frame_next e (Keeps.refl.tick n)

theorem storeAHlStep_frame {d : Addr} (hh : .h ∈ f.footprint.regs) (hl : .l ∈ f.footprint.regs)
    (h : storeAHlStep d s = .next t) : Frame f [s.hl] s t :=
  writeHl_frame h fun _ e => frame_next e ((Keeps.refl.setHl hh hl).tick 8)

theorem loadAHlStep_frame {d : Addr} (ha : .a ∈ f.footprint.regs) (hh : .h ∈ f.footprint.regs)
    (hl : .l ∈ f.footprint.regs) (h : loadAHlStep d s = .next t) : Frame f [] s t :=
  readHl_frame h fun _ e => frame_next e (((Keeps.refl.setReg (r := .a) ha).setHl hh hl).tick 8)

theorem rotA_frame {op : RotOp} (ha : .a ∈ f.footprint.regs) (h : rotA op s = .next t) : Frame f [] s t :=
  frame_next h ((Keeps.refl.setReg (r := .a) ha).writeFlags.tick 4)

theorem callTo_frame {a : Addr} {n : Nat} (hsp : f.footprint.sp = true) (hpc : f.footprint.pc = true)
    (h : callTo a n s = .next t) : Frame f [s.sp - 1#16, s.sp - 2#16] s t :=
  push_frame hsp h fun _ e => frame_next e ((Keeps.refl.jump hpc).tick n)

theorem returnTo_frame {n : Nat} (hsp : f.footprint.sp = true) (hpc : f.footprint.pc = true)
    (h : returnTo n s = .next t) : Frame f [] s t :=
  pop_frame hsp h fun _ _ e => frame_next e ((Keeps.refl.jump hpc).tick n)

end

/-! ## The frame of every instruction -/

/-- The prefixed forms (R191 to R212). -/
theorem runCb_frame {g : CbForm} {s t : State} (h : runCb g s = .next t) : Frame (.cb g) (g.storesTo s) s t := by
  cases g <;> simp only [runCb, rotReg, rotHl, bitReg, bitHl, resReg, resHl, setReg, setHl] at h
  case rotReg => exact frame_next h (.tick 8 (.writeFlags (.setReg List.mem_cons_self .refl)))
  case rotHl => exact modifyHl_frame h fun _ _ e => frame_next e (.tick 16 (.writeFlags .refl))
  case bitReg => exact frame_next h (.tick 8 (.writeFlags .refl))
  case bitHl => exact readHl_frame h fun _ e => frame_next e (.tick 12 (.writeFlags .refl))
  case resReg | setReg => exact frame_next h (.tick 8 (.setReg List.mem_cons_self .refl))
  case resHl | setHl => exact modifyHl_frame h fun _ _ e => frame_next e (.tick 16 .refl)

/-- Every form (R124 to R229). -/
theorem execForm_frame {f : Form} {s t : State} (h : execForm f s = .next t) : Frame f (f.storesTo s) s t := by
  cases f <;> simp only [execForm, ldRegHl, ldHlReg, execLdAtHlN8, popPair, aluHl, execIncAtHl, execDecAtHl,
    execReti, interruptReturn] at h
  case ldRegReg dst src => exact frame_next h (.tick 4 (.setReg List.mem_cons_self .refl))
  case ldRegImm dst n => exact frame_next h (.tick 8 (.setReg List.mem_cons_self .refl))
  case ldRegHl dst => exact readHl_frame h fun _ e => frame_next e (.tick 8 (.setReg List.mem_cons_self .refl))
  case ldHlReg | ldHlImm => exact writeHl_frame h fun _ e => frame_next e (.tick _ .refl)
  case ldABc | ldADe | ldAAbs | ldAHigh | ldAHighC => exact loadA_frame List.mem_cons_self h
  case ldBcA | ldDeA | ldAbsA | ldHighA | ldHighCA => exact storeA_frame h
  case ldHlIncA | ldHlDecA => exact storeAHlStep_frame (by decide) (by decide) h
  case ldAHlInc | ldAHlDec => exact loadAHlStep_frame (by decide) (by decide) (by decide) h
  case ldPairImm p n => exact frame_next h (.tick 12 (.setPair (List.Subset.refl _) (fun e => e ▸ rfl) .refl))
  case ldAbsSp n => exact writeWord_frame h fun _ e => frame_next e (.tick 20 .refl)
  case ldSpHl => exact frame_next h (.tick 8 (.setSp rfl .refl))
  case ldHlSpOff n =>
    exact frame_next h (.tick 12 (.writeFlags (.setHl List.mem_cons_self (List.mem_cons_of_mem _ List.mem_cons_self) .refl)))
  case push q => exact push_frame rfl h fun _ e => frame_next e (.tick 16 .refl)
  case pop q => exact pop_frame rfl h fun _ _ e => frame_next e (.tick 12 (.setStackPair (List.Subset.refl _) .refl))
  case aluReg op r => exact frame_next h (.tick 4 (.aluApply (List.Subset.refl _) .refl))
  case aluHl op => exact readHl_frame h fun _ e => frame_next e (.tick 8 (.aluApply (List.Subset.refl _) .refl))
  case aluImm op n => exact frame_next h (.tick 8 (.aluApply (List.Subset.refl _) .refl))
  case incReg r | decReg r => exact frame_next h (.tick 4 (.writeFlags (.setReg List.mem_cons_self .refl)))
  case incAtHl | decAtHl => exact modifyHl_frame h fun _ _ e => frame_next e (.tick 12 (.writeFlags .refl))
  case daa | cpl => exact frame_next h (.tick 4 (.writeFlags (.setReg (r := .a) List.mem_cons_self .refl)))
  case scf | ccf => exact frame_next h (.tick 4 (.writeFlags .refl))
  case addHl p =>
    exact frame_next h (.tick 8 (.writeFlags (.setHl List.mem_cons_self (List.mem_cons_of_mem _ List.mem_cons_self) .refl)))
  case incPair p | decPair p => exact frame_next h (.tick 8 (.setPair (List.Subset.refl _) (fun e => e ▸ rfl) .refl))
  case addSp n => exact frame_next h (.tick 16 (.writeFlags (.setSp rfl .refl)))
  case rlca | rrca | rla | rra => exact rotA_frame List.mem_cons_self h
  case cb g => exact runCb_frame h
  case jp | jpHl | jr => exact frame_next h (.tick _ (.jump rfl .refl))
  case jpCond | jrCond =>
    simp only [jpCond, jrCond] at h
    split at h
    · exact frame_next h (.tick _ (.jump rfl .refl))
    · exact frame_next h (.tick _ .refl)
  case call | rst => exact callTo_frame rfl rfl h
  case callCond cc n =>
    simp only [callCond] at h
    simp only [Form.storesTo]
    split at h
    · rw [if_pos ‹_›]; exact callTo_frame rfl rfl h
    · rw [if_neg ‹_›]; exact frame_next h (.tick 12 .refl)
  case ret => exact returnTo_frame rfl rfl h
  case retCond cc =>
    simp only [retCond] at h
    split at h
    · exact returnTo_frame rfl rfl h
    · exact frame_next h (.tick 8 .refl)
  case reti =>
    have hdone : ∀ (w : Addr) (u : State), Keeps .reti u { u with pc := w, ime := true, imePending := false } :=
      fun w u => { pc := nofun, ime := fun _ h => absurd rfl h, imePending := fun _ h => absurd rfl h }
    exact pop_frame rfl h fun w u e => frame_next e (.tick 16 (hdone w u))
  case nop => exact frame_next h (.tick 4 .refl)
  case halt =>
    have hhalt : Keeps .halt s { s with mode := .halted } := { mode := fun h => absurd rfl h }
    simp only [execHalt] at h
    split at h
    · cases h
    · exact frame_next h (.tick 4 hhalt)
  case stop n =>
    have hstop : Keeps (.stop n) s { s with mode := .stopped } := { mode := fun _ h => absurd rfl (h n) }
    exact frame_next h (.tick 4 hstop)
  case di =>
    have hdi : Keeps .di s { s with ime := false, imePending := false } :=
      { ime := fun h => absurd rfl h, imePending := fun h => absurd rfl h }
    exact frame_next h (.tick 4 hdi)
  case ei =>
    have hei : Keeps .ei s { s with imePending := true } := { imePending := fun _ _ h => absurd rfl h }
    exact frame_next h (.tick 4 hei)
  case undefined b =>
    have hlock : Keeps (.undefined b) s { s with mode := .locked } := { mode := fun _ _ h => absurd rfl (h b) }
    exact frame_next h (.tick 4 hlock)

/-- Every instruction, by its form. -/
theorem exec_frame {i : Instr} {s t : State} (h : exec i s = .next t) : Frame i.form (i.form.storesTo s) s t :=
  execForm_frame (exec_form i s ▸ h)

/-! ## The obligations -/

/-- Settles O21: no update under the form and no store writes a register outside its footprint. -/
theorem registerFrame : Obligations.RegisterFrame := by
  unfold Obligations.RegisterFrame
  intro i s t h
  have hframe := exec_frame h
  exact ⟨fun r hr => hframe.keep (·.reg r) (fun _ _ k => k.reg r hr) (fun a _ u v => reg_busWrite u a v r),
    fun hsp => hframe.keep State.sp (fun _ _ k => k.sp hsp) (by simp)⟩

/-- Settles O23: no update under the form and no store writes control state the form does not write. -/
theorem controlFrame : Obligations.ControlFrame := by
  unfold Obligations.ControlFrame
  intro i s t h
  have hframe := exec_frame h
  refine ⟨fun h1 h2 => ?_, fun h1 h2 h3 => ?_, fun h1 h2 h3 => ?_, ?_, fun hpc => ?_⟩
  · exact hframe.keep State.ime (fun _ _ k => k.ime h1 h2) (by simp)
  · exact hframe.keep State.imePending (fun _ _ k => k.imePending h1 h2 h3) (by simp)
  · exact hframe.keep State.mode (fun _ _ k => k.mode h1 h2 h3) (by simp)
  · exact hframe.keep State.fault (fun _ _ k => k.fault) (by simp)
  · exact hframe.keep State.pc (fun _ _ k => k.pc hpc) (by simp)

/-- Settles O24: the storage, IE, the cartridge and BOOT_MAPPED store by store, and the bus by what the stores
reach from the state before. -/
theorem memoryFrame : Obligations.MemoryFrame := by
  unfold Obligations.MemoryFrame
  intro i s t h
  have hframe := exec_frame h
  refine ⟨fun key hkey => ?_, fun hie => ?_, fun hcart => ?_, fun hboot => ?_, fun b hb => hframe.busRead b hb,
    fun hnone => ?_⟩
  · exact hframe.keep (·.mem.read key) (fun _ _ k => by rw [k.mem])
      (fun a ha u v => mem_read_busWrite u v (hkey a ha))
  · exact hframe.keep State.ie (fun _ _ k => k.ie) (fun a ha u v => ie_busWrite u v (hie a ha))
  · refine hframe.keep State.cart (fun _ _ k => k.cart) (fun a ha u v => cart_busWrite u v fun hc => ?_)
    obtain ⟨hhigh, hram⟩ := hcart a ha
    exact ((backing_eq_cart_iff a).mp hc).elim (fun hlow => absurd hlow (Nat.not_le.mpr hhigh)) hram
  · exact hframe.keep State.bootMapped (fun _ _ k => k.bootMapped)
      (fun a ha u v => bootMapped_busWrite u v (hboot a ha))
  · exact Frame.storage_of_no_store (hnone ▸ hframe)

end Sys2Proof.Machine
end

section
/-! PROOF. The invariant of the machine is kept by every step and holds after reset; what a step leaves alone of
the cartridge, and what changes MODE (R27, R31, R34, R36, R63, R251). -/

namespace Sys2Proof.Machine

/-! ## The invariant -/

/-- The mark of a model fault keeps the invariant, which does not speak of FAULT (R236). -/
theorem wf_marked {s : State} (f : Fault) (h : s.wf = true) : ({ s with fault := some f } : State).wf = true := h

/-- Settles O16: a step marks a model fault, or is a chain of core updates and byte stores, and each keeps the
invariant. -/
theorem stepKeepsWf : Obligations.StepKeepsWf := by
  unfold Obligations.StepKeepsWf
  intro s t hwf hstep
  obtain ⟨f, rfl⟩ | hchanges := step_changes hstep
  · exact wf_marked f hwf
  · exact hchanges.wf hwf

/-- The state after reset meets the invariant. -/
theorem wf_reset : State.reset.wf = true := by decide

/-- Settles O17: the invariant of the state after reset, which the host's reset keeps. -/
theorem resetWf : Obligations.ResetWf := by
  unfold Obligations.ResetWf
  exact ⟨wf_reset, fun boot init => wf_hostReset boot init wf_reset⟩

/-! ## The cartridge -/

/-- Settles O19: no core update and no byte store touches what is fixed in the cartridge or maps the boot ROM. -/
theorem cartridgeIdentity : Obligations.CartridgeIdentity := by
  unfold Obligations.CartridgeIdentity
  intro s t hstep
  obtain ⟨f, rfl⟩ | hchanges := step_changes hstep
  · exact ⟨rfl, id⟩
  · exact ⟨hchanges.identity, hchanges.boot⟩

/-! ## MODE -/

/-- Interrupt entry leaves MODE alone (R241). -/
theorem dispatch_mode {s t : State} (h : dispatch s = .next t) : t.mode = s.mode := by
  simp only [dispatch] at h
  split at h
  · cases h
  · rw [next_inj (push_next h).2.2]
    simp

/-- A Halted step keeps MODE, or wakes with a request pending and enabled (R251). -/
theorem stepHalted_mode (s : State) :
    (stepHalted s).mode = s.mode ∨ ((stepHalted s).mode = .running ∧ s.pend ≠ 0#8) := by
  unfold stepHalted
  split
  next hpend => exact .inr ⟨rfl, hpend⟩
  next => exact .inl rfl

/-- The mode the form puts the machine in, where it writes MODE: HALT, STOP and the undefined opcodes do
(R225, R226, R229). -/
def newMode (f : Form) : Option RunMode :=
  match f with
  | .halt => some .halted
  | .stop _ => some .stopped
  | .undefined _ => some .locked
  | _ => none

/-- An instruction leaves MODE as its form says. -/
theorem exec_mode {i : Instr} {s t : State} (h : exec i s = .next t) :
    t.mode = (newMode i.form).getD s.mode := by
  obtain ⟨-, -, hkeep, -, -⟩ := controlFrame i s t h
  rw [exec_form] at h
  cases hi : i.form <;> rw [hi] at h hkeep
  case halt =>
    simp only [execForm, execHalt] at h
    split at h
    · cases h
    · rw [next_inj h]; rfl
  case stop | undefined => rw [next_inj h]; rfl
  all_goals exact hkeep nofun nofun nofun

/-- The forms that write MODE, each with its mode. -/
theorem newMode_eq_some {f : Form} {m : RunMode} (h : newMode f = some m) :
    (f = .halt ∧ m = .halted) ∨ ((∃ n, f = .stop n) ∧ m = .stopped) ∨ ((∃ b, f = .undefined b) ∧ m = .locked) := by
  cases f
  case halt => exact .inl ⟨rfl, (Option.some.inj h).symm⟩
  case stop n => exact .inr (.inl ⟨⟨n, rfl⟩, (Option.some.inj h).symm⟩)
  case undefined b => exact .inr (.inr ⟨⟨b, rfl⟩, (Option.some.inj h).symm⟩)
  all_goals cases h

/-- Settles O20: of the cases of a step, only the wake and an instruction of a form that writes MODE change it. -/
theorem modeChanges : Obligations.ModeChanges := by
  unfold Obligations.ModeChanges
  intro s t hstep hne
  obtain ⟨-, ⟨f, -, rfl⟩ | ⟨-, rfl⟩ | ⟨hmode, rfl⟩ | ⟨-, -, -, hd⟩ | ⟨hmode, -, i, len, u, hfetch, hexec, rfl⟩⟩ :=
    step_cases hstep
  · exact absurd rfl hne
  · exact absurd rfl hne
  · obtain hkept | ⟨hwake, hpend⟩ := stepHalted_mode s
    · exact absurd hkept hne
    · exact .inl ⟨hmode, hwake, hpend⟩
  · exact absurd (dispatch_mode hd) hne
  · obtain ⟨rest, hdecode, -, -⟩ := fetch_ok hfetch
    refine .inr ⟨hmode, i, rest, hdecode, ?_⟩
    have hu := exec_mode hexec
    rw [State.enableAfter_mode] at hne ⊢
    cases hnew : newMode i.form with
    | none => rw [hnew] at hu; exact absurd hu hne
    | some m => rw [hnew] at hu; rw [hu]; exact newMode_eq_some hnew

end Sys2Proof.Machine
end

section
/-! PROOF. The flags in F: their places, the writes of F, and the flags each form leaves unchanged (R26 to R28). -/

namespace Sys2Proof.Machine

/-! ## The byte F -/

/-- A packed F as a number (R26). -/
theorem packFlags_toNat (z n h c : Bool) :
    (packFlags z n h c).toNat = 128 * carryNat z + 64 * carryNat n + 32 * carryNat h + 16 * carryNat c := by
  revert z n h c; decide

/-- An F whose low nibble is zero is the pack of its four flags (R26, R27). -/
theorem packFlags_bitOf {f : Byte} (hf : f &&& 0x0F#8 = 0#8) :
    packFlags (bitOf f 7) (bitOf f 6) (bitOf f 5) (bitOf f 4) = f := by
  revert f; decide

/-- A write of one flag, the others written back, changes its bit alone (R28). -/
theorem packFlags_one (z n h c x : Bool) :
    packFlags x n h c = (packFlags z n h c &&& 0x7F#8) ||| (carryByte x <<< 7)
      ∧ packFlags z x h c = (packFlags z n h c &&& 0xBF#8) ||| (carryByte x <<< 6)
      ∧ packFlags z n x c = (packFlags z n h c &&& 0xDF#8) ||| (carryByte x <<< 5)
      ∧ packFlags z n h x = (packFlags z n h c &&& 0xEF#8) ||| (carryByte x <<< 4) := by
  revert z n h c x; decide

/-- Settles O2: F under its mask is the pack of its flags, and a write of one flag is a pack with that one changed. -/
theorem flagsInF : Obligations.FlagsInF := by
  unfold Obligations.FlagsInF
  refine ⟨fun s => ⟨rfl, rfl, rfl, rfl⟩, fun s v => rfl, fun s z n h c => ⟨rfl, packFlags_toNat z n h c⟩, ?_⟩
  intro s x hlow
  have hone := packFlags_one s.flagZ s.flagN s.flagH s.flagC x
  have hf : packFlags s.flagZ s.flagN s.flagH s.flagC = s.f := packFlags_bitOf hlow
  rwa [hf] at hone

/-! ## Flags kept -/

/-- From F = `f` to F = `g` each flag that is not in `w` keeps its value, and a zero low nibble stays zero. -/
structure FlagsKept (w : FlagSet) (f g : Byte) : Prop where
  z : w.z = false → bitOf g 7 = bitOf f 7
  n : w.n = false → bitOf g 6 = bitOf f 6
  h : w.h = false → bitOf g 5 = bitOf f 5
  c : w.c = false → bitOf g 4 = bitOf f 4
  low : f &&& 0x0F#8 = 0#8 → g &&& 0x0F#8 = 0#8

namespace FlagsKept

variable {w : FlagSet} {f g : Byte} {z n h c : Bool}

/-- F is not written. -/
theorem of_eq (e : g = f) : FlagsKept w f g := by
  subst e; exact ⟨fun _ => rfl, fun _ => rfl, fun _ => rfl, fun _ => rfl, id⟩

/-- Every flag may change. -/
theorem of_low (e : g &&& 0x0F#8 = 0#8) : FlagsKept allFlags f g := ⟨nofun, nofun, nofun, nofun, fun _ => e⟩

/-- The flags not in the set are written back as they were. -/
theorem pack (hz : w.z = false → z = bitOf f 7) (hn : w.n = false → n = bitOf f 6) (hh : w.h = false → h = bitOf f 5)
    (hc : w.c = false → c = bitOf f 4) : FlagsKept w f (packFlags z n h c) where
  z e := (bitOf_packFlags_z z n h c).trans (hz e)
  n e := (bitOf_packFlags_n z n h c).trans (hn e)
  h e := (bitOf_packFlags_h z n h c).trans (hh e)
  c e := (bitOf_packFlags_c z n h c).trans (hc e)
  low _ := packFlags_low z n h c

theorem packAll : FlagsKept allFlags f (packFlags z n h c) := .pack nofun nofun nofun nofun

theorem packButC : FlagsKept flagsButC f (packFlags z n h (bitOf f 4)) := .pack nofun nofun nofun fun _ => rfl

theorem packButZ : FlagsKept flagsButZ f (packFlags (bitOf f 7) n h c) := .pack (fun _ => rfl) nofun nofun nofun

theorem packNH : FlagsKept flagsNH f (packFlags (bitOf f 7) n h (bitOf f 4)) :=
  .pack (fun _ => rfl) nofun nofun fun _ => rfl

end FlagsKept

/-! ## F after each shared meaning -/

section

variable {s t : State}

theorem loadA_f {a : Addr} {n : Nat} (h : loadA a n s = .next t) : t.f = s.f := by
  rw [next_inj (readByte_next h).2]; rfl

theorem storeA_f {a : Addr} {n : Nat} (h : storeA a n s = .next t) : t.f = s.f := by
  rw [next_inj (writeByte_next h).2]; simp

theorem callTo_f {a : Addr} {n : Nat} (h : callTo a n s = .next t) : t.f = s.f := by
  rw [next_inj (push_next h).2.2]; simp

theorem returnTo_f {n : Nat} (h : returnTo n s = .next t) : t.f = s.f := by
  rw [next_inj (pop_next h).2.2]; simp

/-- DAA keeps N (R179). -/
theorem daaOut_n (a : Byte) (n h c : Bool) : (daaOut a n h c).n = n := by unfold daaOut; split <;> rfl

/-- A pop writes F for AF alone, and then all of it (R150). -/
theorem setStackPair_flagsKept (u : State) (q : StackPair) (w : Addr) :
    FlagsKept (Form.footprint (.pop q)).flags u.f (u.setStackPair q w).f := by
  cases q
  case af => exact .of_low (maskF_low _)
  all_goals exact .of_eq rfl

/-! ## The flags of every instruction -/

/-- The prefixed forms (R191 to R212). -/
theorem runCb_flagsKept {g : CbForm} (h : runCb g s = .next t) : FlagsKept g.footprint.flags s.f t.f := by
  cases g <;> simp only [runCb, rotReg, rotHl, bitReg, bitHl, resReg, resHl, setReg, setHl] at h
  case rotReg => rw [next_inj h]; exact .packAll
  case rotHl => rw [next_inj (modifyHl_next h).2]; exact .packAll
  case bitReg => rw [next_inj h]; exact .packButC
  case bitHl => rw [next_inj (readHl_next h).2]; exact .packButC
  case resReg | setReg => rw [next_inj h]; exact .of_eq (by simp)
  case resHl | setHl => rw [next_inj (modifyHl_next h).2]; exact .of_eq (by simp)

/-- Every form (R124 to R229). -/
theorem execForm_flagsKept {f : Form} (h : execForm f s = .next t) : FlagsKept f.footprint.flags s.f t.f := by
  cases f <;> simp only [execForm, ldRegHl, ldHlReg, execLdAtHlN8, storeAHlStep, loadAHlStep, execLdAtN16Sp, pushPair,
    popPair, aluHl, execIncAtHl, execDecAtHl, execReti, interruptReturn] at h
  case ldRegReg | ldRegImm | ldPairImm | incPair | decPair => rw [next_inj h]; exact .of_eq (by simp)
  case ldRegHl | ldAHlInc | ldAHlDec => rw [next_inj (readHl_next h).2]; exact .of_eq (by simp)
  case ldHlReg | ldHlImm | ldHlIncA | ldHlDecA => rw [next_inj (writeHl_next h).2]; exact .of_eq (by simp)
  case ldABc | ldADe | ldAAbs | ldAHigh | ldAHighC => exact .of_eq (loadA_f h)
  case ldBcA | ldDeA | ldAbsA | ldHighA | ldHighCA => exact .of_eq (storeA_f h)
  case ldAbsSp => rw [next_inj (writeWord_next h).2.2]; exact .of_eq (by simp)
  case ldSpHl | jp | jpHl | jr | nop | stop | di | ei | undefined => rw [next_inj h]; exact .of_eq rfl
  case ldHlSpOff | addSp | rlca | rrca | rla | rra => rw [next_inj h]; exact .packAll
  case push => rw [next_inj (push_next h).2.2]; exact .of_eq (by simp)
  case pop q => rw [next_inj (pop_next h).2.2]; exact setStackPair_flagsKept { s with sp := s.sp + 2#16 } q _
  case aluReg | aluImm => rw [next_inj h]; exact .of_low (aluApply_flags ..)
  case aluHl => rw [next_inj (readHl_next h).2]; exact .of_low (aluApply_flags ..)
  case incReg | decReg => rw [next_inj h]; exact .packButC
  case incAtHl | decAtHl => rw [next_inj (modifyHl_next h).2]; exact .packButC
  case daa => rw [next_inj h]; exact .pack nofun (fun _ => daaOut_n ..) nofun nofun
  case cpl => rw [next_inj h]; exact .packNH
  case scf | ccf | addHl => rw [next_inj h]; exact .packButZ
  case cb => exact runCb_flagsKept h
  case jpCond | jrCond =>
    simp only [jpCond, jrCond] at h
    split at h <;> rw [next_inj h] <;> exact .of_eq rfl
  case call | rst => exact .of_eq (callTo_f h)
  case callCond cc n =>
    simp only [callCond] at h
    split at h
    · exact .of_eq (callTo_f h)
    · rw [next_inj h]; exact .of_eq rfl
  case ret => exact .of_eq (returnTo_f h)
  case retCond cc =>
    simp only [retCond] at h
    split at h
    · exact .of_eq (returnTo_f h)
    · rw [next_inj h]; exact .of_eq rfl
  case reti => rw [next_inj (pop_next h).2.2]; exact .of_eq rfl
  case halt =>
    simp only [execHalt] at h
    split at h
    · cases h
    · rw [next_inj h]; exact .of_eq rfl

end

/-- Settles O22: the flags kept by the form of the instruction. -/
theorem flagFrame : Obligations.FlagFrame := by
  unfold Obligations.FlagFrame
  intro i s t h
  obtain ⟨hz, hn, hh, hc, hlow⟩ := execForm_flagsKept (exec_form i s ▸ h)
  exact ⟨hz, hn, hh, hc, hlow⟩

end Sys2Proof.Machine
end

section
/-! PROOF. The load of a cartridge and the reset: what they answer, and the storage byte by byte (R45 to R49, R68,
R70 to R74, R85, R252, R255). -/

namespace Sys2Proof.Machine

/-! ## The type byte -/

/-- Every row of the table of R72 gives its controller and features. -/
theorem cartType_of_row : ∀ row ∈ Claims.typeTable, cartType row.1 = some row.2 := by decide

/-- A type byte of no row selects no controller (R73). -/
theorem cartType_eq_none {t : Byte} (h : ∀ row ∈ Claims.typeTable, row.1 ≠ t) : cartType t = none := by
  revert t; decide

/-! ## What a load answers -/

theorem loadImage_short {rom : RomImage} (init : CartInit) (s : State) (h : rom.size < 0x150) :
    loadImage init rom s = .error (.invalidHeaderLength rom.size) := by
  simp only [loadImage, tryParse, if_pos h]

theorem loadImage_unsupported {rom : RomImage} (init : CartInit) (s : State) (h : 0x150 ≤ rom.size)
    (ht : cartType (rom.bytes.readZ 0x147) = none) :
    loadImage init rom s = .error (.unsupportedCartridgeType (rom.bytes.readZ 0x147)) := by
  simp only [loadImage, tryParse, if_neg (Nat.not_lt.mpr h), readHeader, ht]

/-- The cartridge an image gives, of the kind and features of its type byte (R70 to R72). -/
def parsedCartridge (init : CartInit) (rom : RomImage) (kind : ControllerKind) (features : Features) : Cartridge :=
  cartReset init
    { rom := rom, header := readHeader rom, features := features, mbc := mbcReset init kind, cram := [] }

theorem loadImage_supported {rom : RomImage} {kind : ControllerKind} {features : Features} (init : CartInit) (s : State)
    (h : 0x150 ≤ rom.size) (ht : cartType (rom.bytes.readZ 0x147) = some (kind, features)) :
    loadImage init rom s = .ok { s with cart := some (parsedCartridge init rom kind features) } := by
  simp only [loadImage, tryParse, if_neg (Nat.not_lt.mpr h), readHeader, ht, parsedCartridge]

/-! ## Cartridge RAM after a reset -/

/-- How a byte is stored depends on the kind of the controller alone (R85). -/
theorem cramCellOf_congr {m m' : Mbc} (h : m'.kind = m.kind) (v : Byte) :
    Claims.cramCellOf m' v = Claims.cramCellOf m v := by
  cases m <;> cases m' <;> cases h <;> rfl

theorem cramCellOf_zero (m : Mbc) : Claims.cramCellOf m 0#8 = 0#8 := by cases m <;> rfl

/-- A cell of cartridge RAM after a reset: the byte of the image as the controller stores it (R49, R74, R85). -/
theorem cram_cartReset (init : CartInit) (c : Cartridge) (k : Nat) :
    (cartReset init c).cram.readZ k
      = if k < c.cramSize then Claims.cramCellOf c.mbc ((init.cram[k]?).getD 0x00#8) else 0x00#8 := by
  have hkind := kind_mbcReset init c.mbc.kind
  have hsize : Cartridge.cramSize { c with mbc := mbcReset init c.mbc.kind } = c.cramSize :=
    cramSize_congr hkind rfl rfl
  have hstored : Cartridge.cramStored { c with mbc := mbcReset init c.mbc.kind } = Claims.cramCellOf c.mbc :=
    funext fun v => cramCellOf_congr hkind v
  simp only [cartReset, Cells.readZ, readCells_writeBytes zeroByte _ [] 0 k rfl, hsize, hstored]
  by_cases hk : k < c.cramSize
  · cases hb : init.cram[k]? <;> simp [hk, hb, readCells, zeroByte, cramCellOf_zero]
  · simp [hk, readCells, zeroByte]

/-- The RAM of a parsed cartridge holds the bytes of the image handed over that it has room for (R49, R85). -/
theorem cram_parsedCartridge {init : CartInit} {rom : RomImage} {kind : ControllerKind} {features : Features}
    {k : Nat} {b : Byte} (hk : k < (parsedCartridge init rom kind features).cramSize) (hb : init.cram[k]? = some b) :
    (parsedCartridge init rom kind features).cram.readZ k
      = Claims.cramCellOf (parsedCartridge init rom kind features).mbc b := by
  have hkind : (parsedCartridge init rom kind features).mbc.kind = (mbcReset init kind).kind := kind_mbcReset ..
  rw [cramCellOf_congr hkind, parsedCartridge, cram_cartReset, if_pos, hb, Option.getD_some]
  exact hk.trans_eq (cramSize_congr hkind rfl rfl)

/-- The controller of a parsed cartridge is at reset (R49). -/
theorem mbc_parsedCartridge (init : CartInit) (rom : RomImage) (kind : ControllerKind) (features : Features) :
    (parsedCartridge init rom kind features).mbc = mbcReset init kind :=
  congrArg (mbcReset init) (kind_mbcReset init kind)

/-- Settles O57: the three answers of a load, and the parsed cartridge field by field. -/
theorem loadCartridge_answers : Obligations.LoadCartridge := by
  unfold Obligations.LoadCartridge
  intro init rom s
  refine ⟨loadImage_short init s, fun h hno => loadImage_unsupported init s h (cartType_eq_none hno), ?_⟩
  rintro ⟨type, kind, features⟩ hrow h htype
  have ht : cartType (rom.bytes.readZ 0x147) = some (kind, features) := htype ▸ cartType_of_row _ hrow
  refine ⟨parsedCartridge init rom kind features, loadImage_supported init s h ht, rfl, rfl, rfl,
    fun k b hk hb => cram_parsedCartridge hk hb, ?_⟩
  rw [mbc_parsedCartridge]
  cases kind <;> rfl

/-! ## The bus storage after a reset -/

/-- The storage stays canonical when an image is put at a region. -/
theorem wf_putImage {m : Memory} (base size : Nat) (bytes : List Byte) (h : m.wf = true) :
    Memory.wf (writeBytes Memory.unlisted m base (bytes.take size)) = true :=
  cellsWf_writeBytes _ (bytes.take size) m base h

/-- A byte of the storage after an image is put at a region: the image's byte, where it has one there. -/
theorem read_putImage {m : Memory} (base size : Nat) (bytes : List Byte) (key : Nat) (h : m.wf = true) :
    Memory.read (writeBytes Memory.unlisted m base (bytes.take size)) key
      = if base ≤ key ∧ key < base + size then (bytes[key - base]?).getD (m.read key) else m.read key := by
  simp only [Memory.read, readCells_writeBytes _ _ _ _ _ h, List.getElem?_take]
  by_cases hlow : key < base
  · rw [if_pos hlow, if_neg (by omega)]
  · by_cases hhigh : key < base + size
    · rw [if_neg hlow, if_pos (by omega), if_pos (by omega)]
    · rw [if_neg hlow, if_neg (by omega), if_neg (by omega), Option.getD_none]

/-- The storage after a reset, byte by byte (R48): the regions of the images are apart. -/
theorem read_initMemory (init : InitMem) (key : Nat) :
    (initMemory init).read key = (Claims.imageByte init key).getD (Memory.unlisted key) := by
  have hvram := wf_putImage 0x8000 0x2000 init.vram Memory.wf_nil
  have hwram := wf_putImage 0xC000 0x2000 init.wram hvram
  have hoam := wf_putImage 0xFE00 0xA0 init.oam hwram
  have hio := wf_putImage 0xFF00 0x80 init.io hoam
  have hnil : Memory.read [] key = Memory.unlisted key := rfl
  unfold Claims.imageByte
  split_ifs
  all_goals
    simp (disch := omega) only [initMemory, read_putImage _ _ _ _ hio, read_putImage _ _ _ _ hoam,
      read_putImage _ _ _ _ hwram, read_putImage _ _ _ _ hvram, read_putImage _ _ _ _ Memory.wf_nil, if_pos, if_neg,
      hnil, Option.getD_none]

/-- Settles O59: the storage of the images, the cartridge at reset cell by cell, and the reset with nothing handed
over. -/
theorem resetStorage : Obligations.ResetStorage := by
  unfold Obligations.ResetStorage
  refine ⟨fun boot init s => ⟨?_, read_initMemory init, rfl, fun c => ?_⟩, by decide, by decide, by decide, by decide⟩
  · cases boot <;> rfl
  · obtain ⟨hrom, hheader, hfeatures, hmbc⟩ := identity_cartReset init.cart c
    exact ⟨hrom, hheader, hfeatures, hmbc, cram_cartReset init.cart c⟩

/-- Settles O58: both configurations, field by field. -/
theorem resetRegisters : Obligations.ResetRegisters := by
  unfold Obligations.ResetRegisters
  intro boot init s
  cases boot
  · exact ⟨fun _ => ⟨rfl, rfl, rfl, rfl, rfl, rfl, rfl, rfl, rfl, rfl⟩, nofun, rfl, rfl, rfl, rfl, rfl, rfl⟩
  · exact ⟨nofun, fun _ => ⟨rfl, rfl, rfl, rfl, rfl, rfl, rfl, rfl, rfl, rfl⟩, rfl, rfl, rfl, rfl, rfl, rfl⟩

end Sys2Proof.Machine
end

section
/-! PROOF. The bus by the address map (R57, R58): what a read and a write do at each address, a read after a write
(R59), and a pop after a push (R51). -/

namespace Sys2Proof.Machine

/-! ## The address map -/

/-- The low byte of a word is the word reduced to 8 bits (R13). -/
theorem lowByte_eq_ofNat (w : Addr) : lowByte w = BitVec.ofNat 8 w.toNat :=
  BitVec.eq_of_toNat_eq (by rw [lowByte_toNat, BitVec.toNat_ofNat])

/-- The addresses of storage (R56). -/
theorem isRam_iff (a : Addr) : Claims.isRam a ↔ ∃ key, backing a = .store key := by
  unfold backing Claims.isRam
  dsimp only
  repeat' split
  all_goals simp only [reduceCtorEq, Backing.store.injEq, exists_false, exists_eq', iff_true, iff_false]; omega

/-- The byte of storage behind an address: its own, or in the echo window the one 0x2000 below (R59). -/
theorem key_of_backing {a : Addr} {key : Nat} (h : backing a = .store key) :
    0x8000 ≤ a.toNat ∧ (key = a.toNat ∨ 0xE000 ≤ a.toNat ∧ key + 0x2000 = a.toNat) := by
  revert h
  unfold backing
  dsimp only
  repeat' split
  all_goals simp only [reduceCtorEq, Backing.store.injEq, false_implies] <;> omega

/-- Nothing answers at 0xFEA0-0xFEFF (R60). -/
theorem backing_eq_unusable {a : Addr} (hlow : 0xFEA0 ≤ a.toNat) (hhigh : a.toNat ≤ 0xFEFF) :
    backing a = .unusable := by
  simp (disch := omega) only [backing, if_pos, if_neg]

/-- WRAM and its echo answer with the same byte (R59). -/
theorem backing_echo {a : Addr} (hlow : 0xC000 ≤ a.toNat) (hhigh : a.toNat ≤ 0xDDFF) :
    backing a = .store a.toNat ∧ backing (a + 0x2000#16) = .store a.toNat := by
  have hsum : (a + 0x2000#16).toNat = a.toNat + 0x2000 := by
    rw [BitVec.toNat_add, BitVec.toNat_ofNat]; omega
  simp (disch := omega) only [backing, hsum, if_pos, if_neg, Nat.add_sub_cancel, and_self]

/-! ## What a read gives -/

/-- A read of storage: the boot ROM lies below it (R57, R63). -/
theorem busRead_store (s : State) {a : Addr} {key : Nat} (h : backing a = .store key) :
    s.busRead a = s.mem.read key := by
  have hlow := (key_of_backing h).1
  have hboot : s.bootReads a = false := by
    rw [State.bootReads, decide_eq_false (show ¬ a.toNat ≤ 0x00FF by omega), Bool.and_false]
  simp only [State.busRead, hboot, Bool.false_eq_true, if_false, h]

/-- A read of 0xFFFF gives IE (R57). -/
theorem busRead_ie (s : State) : s.busRead 0xFFFF#16 = s.ie := by
  have hboot : s.bootReads 0xFFFF#16 = false := Bool.and_false _
  have hie : backing 0xFFFF#16 = .ie := rfl
  simp only [State.busRead, hboot, Bool.false_eq_true, if_false, hie]

/-- BOOT_MAPPED after a write, as one condition (R63). -/
theorem bootAfterWrite_eq (s : State) (a : Addr) (v : Byte) :
    s.bootAfterWrite a v = (s.bootMapped && !(a == 0xFF50#16 && v != 0#8)) := by
  unfold State.bootAfterWrite
  by_cases ha : a = 0xFF50#16 <;> by_cases hv : v = 0#8 <;> simp [ha, hv]

/-- A write below 0xFF00 leaves BOOT_MAPPED alone (R63). -/
theorem bootAfterWrite_low (s : State) {a : Addr} (v : Byte) (h : a.toNat < 0xFF00) :
    s.bootAfterWrite a v = s.bootMapped := by
  have ha : a ≠ 0xFF50#16 := by rintro rfl; exact absurd h (by decide)
  simp only [State.bootAfterWrite, ha, false_and, if_false]

/-- Settles O51: the arms of the address map, one by one. -/
theorem addressMap : Obligations.AddressMap := by
  unfold Obligations.AddressMap
  intro s a v
  refine ⟨?_, ?_, fun hfree => ⟨fetchByte_free hfree, fun k => readByte_free k hfree⟩⟩
  · simp only [State.busRead, State.bootReads, Bool.and_eq_true, decide_eq_true_eq, lowByte_eq_ofNat, backing]
    split_ifs <;> rfl
  · simp only [State.busWrite, backing]
    split_ifs <;> simp (disch := omega) only [bootAfterWrite_low, bootAfterWrite_eq]

/-! ## A read after a write -/

/-- A write leaves the storage canonical. -/
theorem mem_wf_busWrite {s : State} (a : Addr) (v : Byte) (h : s.mem.wf = true) :
    (s.busWrite a v).mem.wf = true := by
  cases hb : backing a with
  | cart => rw [busWrite_cart v hb]; exact h
  | store key => rw [busWrite_store v hb]; exact Memory.wf_write key v h
  | unusable => rw [busWrite_unusable v hb]; exact h
  | ie => rw [busWrite_ie v hb]; exact h

/-- A write of storage is read at every address the same byte answers at (R59). -/
theorem busRead_busWrite_store {s : State} {a b : Addr} {key : Nat} (v : Byte) (hwf : s.mem.wf = true)
    (ha : backing a = .store key) (hb : backing b = .store key) : (s.busWrite a v).busRead b = v := by
  rw [busRead_store _ hb, busWrite_store v ha]
  exact Memory.read_write_self key v hwf

/-- Storage and IE give a written byte back. -/
theorem busRead_busWrite_self {s : State} {a : Addr} (v : Byte) (hwf : s.mem.wf = true)
    (h : Claims.isRam a ∨ a = 0xFFFF#16) : (s.busWrite a v).busRead a = v := by
  rcases h with hram | rfl
  · obtain ⟨key, hkey⟩ := (isRam_iff a).mp hram
    exact busRead_busWrite_store v hwf hkey hkey
  · rw [busRead_ie, busWrite_ie v rfl]

/-- With no cartridge a write of its windows has no effect (R62). -/
theorem busWrite_no_cart {s : State} {a : Addr} (v : Byte) (hb : backing a = .cart) (hc : s.cart = none) :
    s.busWrite a v = s := by
  rw [busWrite_cart v hb, hc, Option.map_none, ← hc]

/-- No write changes the ROM image (R58). -/
theorem rom_busWrite (s : State) (a : Addr) (v : Byte) :
    (s.busWrite a v).cart.map (fun c => c.rom) = s.cart.map (fun c => c.rom) := by
  by_cases hb : backing a = .cart
  · have hrom : (fun c => (cartWrite c a v).rom) = fun c : Cartridge => c.rom :=
      funext fun c => (identity_cartWrite c a v).1
    rw [busWrite_cart v hb, Option.map_map]
    exact congrArg (s.cart.map ·) hrom
  · rw [cart_busWrite s v hb]

/-- A write of storage is seen only at the addresses its byte answers at, but for the unmapping of the boot ROM
(R59, R63). -/
theorem storeReaches_eq_false {s : State} {a b : Addr} (ha : Claims.isRam a) (hb : backing b ≠ backing a)
    (hboot : a ≠ 0xFF50#16 ∨ 0x00FF < b.toNat) : s.storeReaches a b = false := by
  obtain ⟨key, hkey⟩ := (isRam_iff a).mp ha
  rw [hkey] at hb
  simp only [State.storeReaches, hkey, Bool.or_eq_false_iff, Bool.and_eq_false_iff, beq_eq_false_iff_ne,
    decide_eq_false_iff_not, Nat.not_le]
  exact ⟨hb, hboot⟩

/-- Settles O52: each region by what answers at the address. -/
theorem readAfterWrite : Obligations.ReadAfterWrite := by
  unfold Obligations.ReadAfterWrite
  intro s a v hwf
  refine ⟨fun hram => busRead_busWrite_self v hwf (.inl hram), busRead_busWrite_self v hwf (.inr rfl),
    fun hlow hhigh => ?_, fun hlow hhigh => busWrite_unusable v (backing_eq_unusable hlow hhigh),
    fun hc hwindow => busWrite_no_cart v ((backing_eq_cart_iff a).mpr hwindow) hc, rom_busWrite s a v,
    fun b hram _ hb hboot => busRead_busWrite s v (storeReaches_eq_false hram hb hboot)⟩
  obtain ⟨hwram, hecho⟩ := backing_echo hlow hhigh
  exact ⟨busRead_busWrite_store v hwf hwram hecho, busRead_busWrite_store v hwf hecho hwram,
    (busRead_store s hecho).trans (busRead_store s hwram).symm⟩

/-! ## A pop after a push -/

/-- Two neighbouring bytes of the bus are never one byte of storage. -/
theorem backing_upper_ne {a : Addr} (h : Claims.isRam a) : backing (a + 1#16) ≠ backing a := by
  obtain ⟨key, hkey⟩ := (isRam_iff a).mp h
  rw [hkey]
  intro hupper
  have hlow := key_of_backing hkey
  have hhigh := key_of_backing hupper
  have hsum : (a + 1#16).toNat = (a.toNat + 1) % 65536 := by simp [BitVec.toNat_add]
  have hlt := a.isLt
  omega

/-- Settles O32: the low byte is stored last, and its store does not reach the slot of the high byte. -/
theorem stackRoundTrip : Obligations.StackRoundTrip := by
  unfold Obligations.StackRoundTrip
  intro s w hwf hupper hlower
  have hslot : s.sp - 2#16 + 1#16 = s.sp - 1#16 := sp_upper s.sp
  have hstored : Claims.isRam (s.sp - 1#16) ∨ s.sp - 1#16 = 0xFFFF#16 :=
    hupper.imp_right fun h => by rw [h]; rfl
  have hnotBoot : 0x00FF < (s.sp - 1#16).toNat := by
    rcases hstored with hram | h
    · unfold Claims.isRam at hram; omega
    · rw [h]; decide
  have hreach : ∀ t : State, t.storeReaches (s.sp - 2#16) (s.sp - 1#16) = false := fun t =>
    storeReaches_eq_false hlower (hslot ▸ backing_upper_ne hlower) (.inr hnotBoot)
  have hlo : (Claims.pushed w s).busRead (s.sp - 2#16) = lowByte w :=
    busRead_busWrite_self _ (mem_wf_busWrite _ _ hwf) (.inl hlower)
  have hhi : (Claims.pushed w s).busRead (s.sp - 1#16) = highByte w :=
    (busRead_busWrite _ _ (hreach _)).trans (busRead_busWrite_self _ hwf hstored)
  have hsp : (Claims.pushed w s).sp = s.sp - 2#16 := by simp [Claims.pushed]
  refine ⟨hlo, hhi, ?_, ?_⟩
  · rw [Claims.popped, hsp, hslot, hlo, hhi, pack_split]
  · rw [hsp, BitVec.sub_add_cancel]

end Sys2Proof.Machine
end

section
/-! PROOF. When an instruction does not complete (R97, R225, R236): each shared operation stops exactly where one of
its accesses is blocked, and so does every form. -/

namespace Sys2Proof.Machine

/-! ## Stopping at an access -/

/-- The outcome `r` is F_HUC1_IR exactly where one of the accesses `as`, seen from `s`, is blocked, and else a next
state (R97). -/
structure StopsAt (s : State) (as : List Addr) (r : Result) : Prop where
  blocked : (∃ a ∈ as, s.irBlocked a = true) → r = .fault .huc1Ir
  free : (∀ a ∈ as, s.irBlocked a = false) → ∃ t, r = .next t

/-- An outcome with no access left. -/
theorem stopsAt_next (s t : State) : StopsAt s [] (.next t) := ⟨by simp, fun _ => ⟨t, rfl⟩⟩

/-- The same accesses blocked, the same stops. -/
theorem StopsAt.congr {s u : State} {as : List Addr} {r : Result}
    (hir : ∀ a ∈ as, u.irBlocked a = s.irBlocked a) (h : StopsAt u as r) : StopsAt s as r := by
  constructor
  · rintro ⟨a, ha, hb⟩
    exact h.blocked ⟨a, ha, (hir a ha).trans hb⟩
  · exact fun hf => h.free fun a ha => (hir a ha).trans (hf a ha)

/-- A first access: blocked, it stops the operation; free, the rest decides. -/
theorem StopsAt.cons {s : State} {a : Addr} {as : List Addr} {r : Result}
    (hblocked : s.irBlocked a = true → r = .fault .huc1Ir) (hfree : s.irBlocked a = false → StopsAt s as r) :
    StopsAt s (a :: as) r := by
  cases ha : s.irBlocked a with
  | true => exact ⟨fun _ => hblocked ha, fun h => by rw [h a List.mem_cons_self] at ha; cases ha⟩
  | false =>
    constructor
    · rintro ⟨b, hmem, hb⟩
      rcases List.mem_cons.mp hmem with rfl | hmem
      · rw [ha] at hb; cases hb
      · exact (hfree ha).blocked ⟨b, hmem, hb⟩
    · exact fun h => (hfree ha).free fun b hb => h b (List.mem_cons_of_mem a hb)

theorem readByte_stopsAt {s : State} {a : Addr} {as : List Addr} {k : Byte → Result}
    (hk : ∀ v, StopsAt s as (k v)) : StopsAt s (a :: as) (readByte s a k) :=
  .cons (readByte_blocked k) fun h => readByte_free k h ▸ hk _

theorem writeByte_stopsAt {s : State} {a : Addr} {as : List Addr} {v : Byte} {k : State → Result}
    (hk : StopsAt s as (k (s.busWrite a v))) : StopsAt s (a :: as) (writeByte s a v k) :=
  .cons (writeByte_blocked v k) fun h => writeByte_free v k h ▸ hk

/-- `Push` stops at its two slots, the upper one first (R143). -/
theorem push_stopsAt {s : State} {w : Addr} {k : State → Result} (hk : ∀ t, ∃ u, k t = .next u) :
    StopsAt s [s.sp - 1#16, s.sp - 2#16] (push w s k) := by
  refine .congr (u := { s with sp := s.sp - 2#16 }) (fun _ _ => irBlocked_congr _ rfl) ?_
  rw [push, ← sp_upper]
  refine writeByte_stopsAt (.congr (u := State.busWrite _ (s.sp - 2#16 + 1#16) (highByte w)) (fun a ha => ?_)
    (writeByte_stopsAt ?_))
  · rw [List.mem_singleton.mp ha, irBlocked_after_upper]
  · obtain ⟨u, hu⟩ := hk (State.busWrite _ (s.sp - 2#16) (lowByte w))
    exact hu ▸ stopsAt_next _ u

/-- `Pop` stops at its two slots (R144). -/
theorem pop_stopsAt {s : State} {k : Addr → State → Result} (hk : ∀ w t, ∃ u, k w t = .next u) :
    StopsAt s [s.sp, s.sp + 1#16] (pop s k) := by
  refine readByte_stopsAt fun lo => readByte_stopsAt fun hi => ?_
  obtain ⟨u, hu⟩ := hk (pack lo hi) { s with sp := s.sp + 2#16 }
  exact hu ▸ stopsAt_next s u

/-- A store of a word stops at its two addresses (R15). -/
theorem writeWord_stopsAt {s : State} {a w : Addr} {k : State → Result} (hk : ∀ t, ∃ u, k t = .next u) :
    StopsAt s [a, a + 1#16] (writeWord s a w k) := by
  refine writeByte_stopsAt (.congr (u := s.busWrite a (lowByte w)) (fun b hb => ?_) (writeByte_stopsAt ?_))
  · rw [List.mem_singleton.mp hb, irBlocked_after_lower]
  · obtain ⟨u, hu⟩ := hk (State.busWrite _ (a + 1#16) (highByte w))
    exact hu ▸ stopsAt_next _ u

/-- A read-modify-write of (HL) accesses one address twice. -/
theorem modifyHl_stopsAt {s : State} {f : Byte → Byte} {k : Byte → State → Result} (hk : ∀ v t, ∃ u, k v t = .next u) :
    StopsAt s [s.hl, s.hl] (modifyHl s f k) := by
  refine readByte_stopsAt fun v => writeByte_stopsAt (?_ : StopsAt s [] (k v (s.busWrite s.hl (f v))))
  obtain ⟨u, hu⟩ := hk v (s.busWrite s.hl (f v))
  exact hu ▸ stopsAt_next s u

theorem callTo_stopsAt (s : State) (a : Addr) (n : Nat) : StopsAt s [s.sp - 1#16, s.sp - 2#16] (callTo a n s) :=
  push_stopsAt fun _ => ⟨_, rfl⟩

theorem returnTo_stopsAt (s : State) (n : Nat) : StopsAt s [s.sp, s.sp + 1#16] (returnTo n s) :=
  pop_stopsAt fun _ _ => ⟨_, rfl⟩

/-! ## Every instruction -/

/-- The prefixed forms (R191 to R212). -/
theorem runCb_stopsAt (g : CbForm) (s : State) : StopsAt s (Form.accesses (.cb g) s) (runCb g s) := by
  cases g <;> simp only [runCb, rotReg, rotHl, bitReg, bitHl, resReg, resHl, setReg, setHl]
  case rotHl | resHl | setHl => exact modifyHl_stopsAt fun _ _ => ⟨_, rfl⟩
  case bitHl => exact readByte_stopsAt fun _ => stopsAt_next s _
  case rotReg | bitReg | resReg | setReg => exact stopsAt_next s _

/-- Every form but HALT (R124 to R229). -/
theorem execForm_stopsAt {f : Form} (s : State) (hf : f ≠ .halt) : StopsAt s (f.accesses s) (execForm f s) := by
  cases f <;> simp only [execForm, ldRegHl, ldHlReg, execLdAtHlN8, loadA, storeA, storeAHlStep, loadAHlStep, aluHl,
    readHl, writeHl, execLdAtN16Sp, pushPair, popPair, execReti, interruptReturn, execIncAtHl, execDecAtHl, jpCond,
    jrCond, callCond, retCond]
  case ldRegHl | ldABc | ldADe | ldAAbs | ldAHigh | ldAHighC | ldAHlInc | ldAHlDec | aluHl =>
    exact readByte_stopsAt fun _ => stopsAt_next s _
  case ldHlReg | ldHlImm | ldBcA | ldDeA | ldAbsA | ldHighA | ldHighCA | ldHlIncA | ldHlDecA =>
    exact writeByte_stopsAt (stopsAt_next s _)
  case ldAbsSp => exact writeWord_stopsAt fun _ => ⟨_, rfl⟩
  case push => exact push_stopsAt fun _ => ⟨_, rfl⟩
  case pop | reti => exact pop_stopsAt fun _ _ => ⟨_, rfl⟩
  case incAtHl | decAtHl => exact modifyHl_stopsAt fun _ _ => ⟨_, rfl⟩
  case cb g => exact runCb_stopsAt g s
  case call | rst => exact callTo_stopsAt s _ _
  case ret => exact returnTo_stopsAt s _
  case callCond cc n =>
    simp only [Form.accesses, Form.loadsFrom, Form.storesTo]
    split
    · exact callTo_stopsAt s n 24
    · exact stopsAt_next s _
  case retCond cc =>
    simp only [Form.accesses, Form.loadsFrom, Form.storesTo, List.append_nil]
    split
    · exact returnTo_stopsAt s 20
    · exact stopsAt_next s _
  case jpCond | jrCond => split <;> exact stopsAt_next s _
  case halt => exact absurd rfl hf
  all_goals exact stopsAt_next s _

/-! ## The obligation -/

/-- The infrared window (R97). -/
theorem irBlocked_iff (s : State) (a : Addr) : s.irBlocked a = true ↔
    Claims.inRamWindow a ∧ ∃ c r, s.cart = some c ∧ c.mbc = .huc1 r ∧ r.irmode = true := by
  unfold Claims.inRamWindow
  cases hc : s.cart with
  | none => simp [State.irBlocked, hc]
  | some c => cases hm : c.mbc <;> simp [State.irBlocked, hc, Cartridge.infrared, hm]

/-- A step whose fetch is blocked only marks F_HUC1_IR (R97, R236). -/
theorem step_fetch_blocked {s : State} (hrun : Claims.runsInstr s) (hfetch : fetch s = .error .huc1Ir) :
    step s = .next { s with fault := some .huc1Ir } := by
  obtain ⟨hfault, hmode, hirq⟩ := hrun
  have hno : ¬ (s.ime = true ∧ s.pend ≠ 0#8) := by
    rintro ⟨hime, hpend⟩
    rcases hirq with h | h
    · rw [h] at hime; cases hime
    · exact hpend h
  simp only [step, stepWith, hfault, stepMode, hmode, stepRunning, if_neg hno, executeNext, hfetch, markFault]

/-- Settles O50: HALT has no access and its own condition; every other form stops at its accesses alone. -/
theorem trapsExactly : Obligations.TrapsExactly := by
  unfold Obligations.TrapsExactly
  intro i s
  rw [exec_form]
  have hstep : ∀ k, Claims.runsInstr s → k < instrLength (s.busRead s.pc) →
      s.irBlocked (s.pc + BitVec.ofNat 16 k) = true → step s = .next { s with fault := some .huc1Ir } :=
    fun k hrun hk hb => step_fetch_blocked hrun (fetch_blocked hk hb)
  by_cases hhalt : i.form = .halt
  · rw [hhalt]
    refine ⟨by simp [Form.accesses, Form.loadsFrom, Form.storesTo], fun _ => ⟨?_, ?_⟩, irBlocked_iff s, hstep⟩
    · rintro ⟨-, hbug⟩
      exact if_pos hbug
    · exact fun hno => ⟨_, if_neg fun hbug => hno ⟨rfl, hbug⟩⟩
  · obtain ⟨hblocked, hfree⟩ := execForm_stopsAt s hhalt
    exact ⟨hblocked, fun h => ⟨fun hbug => absurd hbug.1 hhalt, fun _ => hfree h⟩, irBlocked_iff s, hstep⟩

end Sys2Proof.Machine
end

section
/-! PROOF. The ROM banks of a cartridge and the registers of its controller (R75, R79 to R95). -/

namespace Sys2Proof.Machine

/-! ## ROM banks (R75) -/

/-- The bank count is the least power of two with room for two banks and for every bank of the image (R75). -/
theorem romBankCount_le_iff (rom : RomImage) (k : Nat) :
    romBankCount rom ≤ 2 ^ k ↔ 2 ≤ 2 ^ k ∧ (rom.size + 0x3FFF) / 0x4000 ≤ 2 ^ k := by
  have hne : max 2 (romBanks rom) - 1 ≠ 0 := by omega
  calc romBankCount rom ≤ 2 ^ k
      ↔ Nat.log2 (max 2 (romBanks rom) - 1) < k := Nat.pow_le_pow_iff_right (by decide)
    _ ↔ max 2 (romBanks rom) - 1 < 2 ^ k := Nat.log2_lt hne
    _ ↔ max 2 (romBanks rom) ≤ 2 ^ k := by omega
    _ ↔ 2 ≤ 2 ^ k ∧ (rom.size + 0x3FFF) / 0x4000 ≤ 2 ^ k := max_le_iff

/-- The offset in the image, in whole numbers: the unused bank lines are not connected (R75). -/
theorem romOffset_eq (rom : RomImage) (bank : Nat) (a : Addr) :
    romOffset rom bank a = bank % romBankCount rom * 0x4000 + a.toNat % 0x4000 := by
  rw [romOffset, romBankCount, Nat.and_two_pow_sub_one_eq_mod,
    show (0x3FFF : Nat) = 2 ^ 14 - 1 from rfl, Nat.and_two_pow_sub_one_eq_mod]

/-- The bank at 0x0000-0x3FFF (R77). -/
theorem cartRead_low (c : Cartridge) {a : Addr} (h : a.toNat ≤ 0x3FFF) :
    cartRead c a = romByte c.rom c.mbc.lowBank a := by
  rw [cartRead, if_pos h]

/-- The bank at 0x4000-0x7FFF (R77). -/
theorem cartRead_high (c : Cartridge) {a : Addr} (hlow : 0x4000 ≤ a.toNat) (hhigh : a.toNat ≤ 0x7FFF) :
    cartRead c a = romByte c.rom c.mbc.highBank a := by
  rw [cartRead, if_neg (by omega), if_pos hhigh]

/-- Settles O53: the bank count is one power of two and bounds itself; the banks controller by controller. -/
theorem romBanks_shown : Obligations.RomBanks := by
  unfold Obligations.RomBanks
  refine ⟨fun rom => ?_, fun rom bank a => ?_, fun c a h => ?_, fun c a hlow hhigh => ?_⟩
  · obtain ⟨htwo, hbanks⟩ := (romBankCount_le_iff rom _).mp le_rfl
    exact ⟨⟨_, rfl⟩, htwo, hbanks, fun k h2 hk => (romBankCount_le_iff rom k).mpr ⟨h2, hk⟩⟩
  · simp only [romByte, romOffset_eq]
  · rw [cartRead_low c h]
    cases c.mbc <;> rfl
  · rw [cartRead_high c hlow hhigh]
    cases c.mbc with
    | huc1 r => simp only [Mbc.highBank, ← BitVec.toNat_inj, BitVec.toNat_ofNat, Nat.zero_mod]
    | _ => rfl

/-! ## Controller registers -/

/-- The RAM-enable test in whole numbers (D19). -/
theorem ramEnableNibble_eq (v : Byte) : ramEnableNibble v = decide (v.toNat % 16 = 10) := by
  revert v; decide

/-- A test of a byte for one value, in whole numbers. -/
theorem beq_eq_decide_toNat (v w : Byte) : (v == w) = decide (v.toNat = w.toNat) := by
  rw [Bool.beq_eq_decide_eq]
  exact decide_eq_decide.mpr BitVec.toNat_inj.symm

/-- Bit 0 in whole numbers. -/
theorem bitOf_zero (v : Byte) : bitOf v 0 = decide (v.toNat % 2 = 1) := by
  revert v; decide

/-- The low bits of a byte in whole numbers. -/
theorem setWidth_eq_ofNat_mod (v : Byte) (n : Nat) : v.setWidth n = BitVec.ofNat n (v.toNat % 2 ^ n) :=
  BitVec.eq_of_toNat_eq (by simp)

/-- A bank field that is written as 0 holds 1 (R78). -/
theorem nonzeroBank_eq (v : Byte) (n : Nat) :
    (if v.setWidth n = 0#n then 1#n else v.setWidth n)
      = BitVec.ofNat n (if v.toNat % 2 ^ n = 0 then 1 else v.toNat % 2 ^ n) := by
  have hzero : v.setWidth n = 0#n ↔ v.toNat % 2 ^ n = 0 := by
    rw [← BitVec.toNat_inj, BitVec.toNat_setWidth]; simp
  simp only [hzero]
  split
  · rfl
  · exact setWidth_eq_ofNat_mod v n

/-- MBC5's bank register with its low eight bits written (R91). -/
theorem mbc5_low_write (r : BitVec 9) (v : Byte) :
    r.extractLsb' 8 1 ++ v = BitVec.ofNat 9 (r.toNat / 256 * 256 + v.toNat) := by
  apply BitVec.eq_of_toNat_eq
  have hv := v.isLt
  have hr := r.isLt
  rw [BitVec.toNat_append, ← Nat.shiftLeft_add_eq_or_of_lt hv]
  simp only [BitVec.extractLsb'_toNat, BitVec.toNat_ofNat, Nat.shiftLeft_eq, Nat.shiftRight_eq_div_pow]
  omega

/-- MBC5's bank register with bit 8 written (R91). -/
theorem mbc5_high_write (r : BitVec 9) (v : Byte) :
    v.extractLsb' 0 1 ++ r.extractLsb' 0 8 = BitVec.ofNat 9 (v.toNat % 2 * 256 + r.toNat % 256) := by
  apply BitVec.eq_of_toNat_eq
  rw [BitVec.toNat_append, ← Nat.shiftLeft_add_eq_or_of_lt (BitVec.isLt _)]
  simp only [BitVec.extractLsb'_toNat, BitVec.toNat_ofNat, Nat.shiftLeft_eq, Nat.shiftRight_eq_div_pow]
  omega

/-- MBC5's RAM bank: three bits where the cartridge has a rumble motor, else four (R91). -/
theorem mbc5_ramBank (rumble : Bool) (v : Byte) :
    (if rumble = true then v &&& 0x07#8 else v &&& 0x0F#8).setWidth 4
      = BitVec.ofNat 4 (if rumble = true then v.toNat % 8 else v.toNat % 16) := by
  revert rumble v; decide

/-- The address bit MBC2 decodes (R83). -/
theorem getLsbD_eight (a : Addr) : a.getLsbD 8 = true ↔ ¬ a.toNat / 256 % 2 = 0 := by
  simp [BitVec.getLsbD, Nat.testBit_eq_decide_div_mod_eq]

/-- Settles O54: controller by controller, each register's write in whole numbers. -/
theorem controllerWrites : Obligations.ControllerWrites := by
  unfold Obligations.ControllerWrites
  intro c a v ha
  simp only [cartWrite, if_pos ha, mbcWrite]
  cases c.mbc with
  | fixed => rfl
  | mbc1 r =>
    simp only [mbc1Write, ramEnableNibble_eq, nonzeroBank_eq, setWidth_eq_ofNat_mod v 2, bitOf_zero, Nat.reducePow]
  | mbc2 r =>
    simp only [mbc2Write, ramEnableNibble_eq, nonzeroBank_eq, getLsbD_eight, ite_not, ← Nat.not_le, Nat.reducePow]
  | mbc3 r => simp only [mbc3Write, ramEnableNibble_eq, nonzeroBank_eq, Nat.reducePow]
  | mbc5 r =>
    simp only [mbc5Write, beq_eq_decide_toNat, mbc5_low_write, mbc5_high_write, mbc5_ramBank, BitVec.reduceToNat]
  | huc1 r =>
    simp only [huc1Write, ramEnableNibble_eq, beq_eq_decide_toNat, setWidth_eq_ofNat_mod v 2,
      setWidth_eq_ofNat_mod v 6, BitVec.reduceToNat, Nat.reducePow]

end Sys2Proof.Machine
end

section
/-! PROOF. Cartridge RAM by controller (R74, R76, R79, R82, R85, R88, R93, R96). -/

namespace Sys2Proof.Machine

/-! ## CRAM_SIZE -/

/-- CRAM_SIZE by the RAM-size code as a number (R74). -/
theorem ramSizeOfCode_eq (code : Byte) : ramSizeOfCode code = match code.toNat with
    | 1 => 0x800 | 2 => 0x2000 | 3 => 0x8000 | 4 => 0x20000 | 5 => 0x10000 | _ => 0 := by
  revert code; decide

/-! ## The window 0xA000-0xBFFF -/

/-- A read of the window is one of cartridge RAM (R77). -/
theorem cartRead_window (c : Cartridge) {a : Addr} (h : Claims.inRamWindow a) : cartRead c a = cartRamRead c a := by
  unfold Claims.inRamWindow at h
  rw [cartRead, if_neg (by omega), if_neg (by omega)]

/-- A write of the window is one of cartridge RAM (R77). -/
theorem cartWrite_window (c : Cartridge) {a : Addr} (v : Byte) (h : Claims.inRamWindow a) :
    cartWrite c a v = cartRamWrite c a v := by
  unfold Claims.inRamWindow at h
  rw [cartWrite, if_neg (by omega)]

/-- Where neither RAM nor a clock register shows, a read is open bus and a write has no effect (R79). -/
theorem cartRam_none {c : Cartridge} {a : Addr} (v : Byte) (hoff : c.cramOffset a = none) (hrtc : c.rtcSelected = none) :
    cartRamRead c a = Config.openBus ∧ cartRamWrite c a v = c := by
  simp only [cartRamRead, cartRamWrite, hoff, hrtc, and_self]

/-- Where a clock register shows, a read gives it of the LATCHED set, and a write goes to the LIVE set (R88). -/
theorem cartRam_rtc {c : Cartridge} {a : Addr} {r : Mbc3} {reg : RtcReg} (v : Byte) (hoff : c.cramOffset a = none)
    (hrtc : c.rtcSelected = some (r, reg)) :
    cartRamRead c a = rtcRead r.latched reg
      ∧ cartRamWrite c a v = { c with mbc := .mbc3 { r with live := rtcWrite r.live reg v } } := by
  simp only [cartRamRead, cartRamWrite, hoff, hrtc, and_self]

/-- Where a cell shows, a read and a write are of that cell (R82, R85). -/
theorem cartRam_cell {c : Cartridge} {a : Addr} {off : Nat} (v : Byte) (hoff : c.cramOffset a = some off) :
    cartRamRead c a = c.cramView (c.cram.readZ off)
      ∧ cartRamWrite c a v = { c with cram := c.cram.writeZ off (c.cramStored v) } := by
  simp only [cartRamRead, cartRamWrite, hoff, and_self]

/-- A controller that is not MBC2 keeps whole bytes in RAM (R85). -/
theorem cramView_byte {c : Cartridge} (h : ∀ r, c.mbc ≠ .mbc2 r) (v : Byte) :
    c.cramView v = v ∧ c.cramStored v = v := by
  unfold Cartridge.cramView Cartridge.cramStored
  cases hm : c.mbc with
  | mbc2 r => exact absurd hm (h r)
  | _ => exact ⟨rfl, rfl⟩

/-- A controller that shows one bank of byte-wide RAM where `shown` holds, and nothing else (R82, R93, R96). -/
theorem cartRam_banked {c : Cartridge} {a : Addr} {shown : Prop} [Decidable shown] {bank : Nat} (v : Byte)
    (hbyte : ∀ r, c.mbc ≠ .mbc2 r)
    (hoff : c.cramOffset a = if shown ∧ 0 < c.cramSize then some (ramOff c bank a) else none)
    (hrtc : ¬ (shown ∧ 0 < c.cramSize) → c.rtcSelected = none) :
    cartRamRead c a = Claims.ramByte c shown bank a ∧ cartRamWrite c a v = Claims.ramWritten c shown bank a v := by
  unfold Claims.ramByte Claims.ramWritten
  by_cases hs : shown ∧ 0 < c.cramSize
  · rw [if_pos hs] at hoff
    obtain ⟨hread, hwrite⟩ := cartRam_cell v hoff
    rw [if_pos hs, if_pos hs, hread, hwrite, (cramView_byte hbyte _).1, (cramView_byte hbyte _).2]
    exact ⟨rfl, rfl⟩
  · rw [if_neg hs] at hoff
    rw [if_neg hs, if_neg hs]
    exact cartRam_none v hoff (hrtc hs)

/-- MBC2's 512 four-bit cells (R85). -/
theorem cartRam_mbc2 {c : Cartridge} {r : Mbc2} (a : Addr) (v : Byte) (hm : c.mbc = .mbc2 r) :
    cartRamRead c a = (if r.ramg = true then
        (Config.openBus &&& 0xF0#8) ||| c.cram.readZ ((a.toNat - 0xA000) % 512) else Config.openBus)
      ∧ cartRamWrite c a v = (if r.ramg = true then
        { c with cram := c.cram.writeZ ((a.toNat - 0xA000) % 512) (v &&& 0x0F#8) } else c) := by
  have hoff : c.cramOffset a = if r.ramg = true then some ((a.toNat - 0xA000) % 512) else none := by
    have hmask : (a.toNat - 0xA000) &&& 0x1FF = (a.toNat - 0xA000) % 512 := Nat.and_two_pow_sub_one_eq_mod _ 9
    simp only [Cartridge.cramOffset, hm, hmask]
  cases hg : r.ramg with
  | true =>
    obtain ⟨hread, hwrite⟩ := cartRam_cell v (hoff.trans (if_pos hg))
    simp only [hread, hwrite, Cartridge.cramView, Cartridge.cramStored, hm, if_true, and_self]
  | false => exact cartRam_none v (by simp [hoff, hg]) (by simp [Cartridge.rtcSelected, hm])

/-- The RAM banks of MBC3 are no clock registers (R88, R89). -/
theorem rtcRegOfSel_bank {sel : Byte} (h : sel.toNat ≤ 3) : rtcRegOfSel sel = none := by
  revert sel; decide

/-- MBC3 with RAM and clock disabled (R88). -/
theorem cartRam_mbc3_disabled {c : Cartridge} {r : Mbc3} (a : Addr) (v : Byte) (hm : c.mbc = .mbc3 r)
    (hg : r.ramg = false) : cartRamRead c a = Config.openBus ∧ cartRamWrite c a v = c :=
  cartRam_none v (by simp [Cartridge.cramOffset, hm, hg]) (by simp [Cartridge.rtcSelected, hm, hg])

/-- MBC3 with SEL a RAM bank (R88). -/
theorem cartRam_mbc3_bank {c : Cartridge} {r : Mbc3} (a : Addr) (v : Byte) (hm : c.mbc = .mbc3 r)
    (hg : r.ramg = true) (hsel : r.sel.toNat ≤ 3) :
    cartRamRead c a = Claims.ramByte c True r.sel.toNat a
      ∧ cartRamWrite c a v = Claims.ramWritten c True r.sel.toNat a v := by
  refine cartRam_banked v (by simp [hm]) ?_ fun _ => ?_
  · simp only [Cartridge.cramOffset, hm, hg, hsel, true_and]
  · simp [Cartridge.rtcSelected, hm, rtcRegOfSel_bank hsel]

/-- MBC3 with SEL no RAM bank shows the clock register SEL selects, on a cartridge with a clock (R88). -/
theorem mbc3_clock {c : Cartridge} {r : Mbc3} (a : Addr) (hm : c.mbc = .mbc3 r) (hg : r.ramg = true)
    (hsel : ¬ r.sel.toNat ≤ 3) :
    c.cramOffset a = none
      ∧ c.rtcSelected = (if c.features.rtc = true then rtcRegOfSel r.sel else none).map fun reg => (r, reg) := by
  constructor
  · simp [Cartridge.cramOffset, hm, hsel]
  · cases hrtc : c.features.rtc <;> simp [Cartridge.rtcSelected, hm, hg, hrtc]

/-- Settles O55: the size of CRAM, and the window controller by controller. -/
theorem cartridgeRam : Obligations.CartridgeRam := by
  unfold Obligations.CartridgeRam
  intro c a v ha
  rw [cartRead_window c ha, cartWrite_window c v ha]
  refine ⟨?size, fun hm => ?fixed, fun r hm => ?mbc1, fun r hm => cartRam_mbc2 a v hm, fun r hm => ?mbc3,
    fun r hm => ?mbc5, fun r hm => ?huc1⟩
  case size =>
    unfold Cartridge.cramSize
    cases c.mbc with
    | mbc2 r => rfl
    | _ =>
      cases c.features.ram with
      | false => rfl
      | true => exact ramSizeOfCode_eq _
  case fixed => exact cartRam_none v (by simp [Cartridge.cramOffset, hm]) (by simp [Cartridge.rtcSelected, hm])
  case mbc1 | mbc5 | huc1 =>
    exact cartRam_banked v (by simp [hm]) (by simp only [Cartridge.cramOffset, hm])
      fun _ => by simp only [Cartridge.rtcSelected, hm]
  case mbc3 =>
    by_cases hg : r.ramg = false
    · simp only [if_pos hg]
      exact cartRam_mbc3_disabled a v hm hg
    · simp only [if_neg hg]
      have hg := Bool.eq_true_of_not_eq_false hg
      by_cases hsel : r.sel.toNat ≤ 3
      · simp only [if_pos hsel]
        exact cartRam_mbc3_bank a v hm hg hsel
      · simp only [if_neg hsel]
        obtain ⟨hoff, hrtc⟩ := mbc3_clock a hm hg hsel
        cases hreg : (if c.features.rtc = true then rtcRegOfSel r.sel else none) with
        | none => exact cartRam_none v hoff (by rw [hrtc, hreg]; rfl)
        | some reg => exact cartRam_rtc v hoff (by rw [hrtc, hreg]; rfl)

end Sys2Proof.Machine
end

section
/-! PROOF. The clock registers of MBC3 and `rtc_tick` (R89, R90). -/

namespace Sys2Proof.Machine

/-! ## The registers (R89) -/

/-- No other value of SEL selects a clock register. -/
theorem rtcRegOfSel_outside {sel : Byte} (h : sel.toNat < 8 ∨ 12 < sel.toNat) : rtcRegOfSel sel = none := by
  revert sel; decide

/-- The six low bits of a byte, as a register of that width gives them back. -/
theorem setWidth_six (v : Byte) : (v.setWidth 6).setWidth 8 = v &&& 0x3F#8 := by
  revert v; decide

/-- The five low bits of a byte, as a register of that width gives them back. -/
theorem setWidth_five (v : Byte) : (v.setWidth 5).setWidth 8 = v &&& 0x1F#8 := by
  revert v; decide

/-- The three stored bits of RTC_DH at their places. -/
theorem rtcDh_bits (v : Byte) :
    BitVec.ofBool (bitOf v 7) ++ BitVec.ofBool (bitOf v 6) ++ 0#5 ++ BitVec.ofBool (bitOf v 0) = v &&& 0xC1#8 := by
  revert v; decide

/-- A clock register written and read gives the byte under its mask. -/
theorem rtcRead_rtcWrite_self (t : RtcSet) (v : Byte) :
    rtcRead (rtcWrite t .s v) .s = v &&& 0x3F#8 ∧ rtcRead (rtcWrite t .m v) .m = v &&& 0x3F#8
      ∧ rtcRead (rtcWrite t .h v) .h = v &&& 0x1F#8 ∧ rtcRead (rtcWrite t .dl v) .dl = v &&& 0xFF#8
      ∧ rtcRead (rtcWrite t .dh v) .dh = v &&& 0xC1#8 :=
  ⟨setWidth_six v, setWidth_six v, setWidth_five v, BitVec.and_allOnes.symm, rtcDh_bits v⟩

/-- A clock register written leaves the others alone. -/
theorem rtcRead_rtcWrite_ne (t : RtcSet) (v : Byte) {r r' : RtcReg} (h : r' ≠ r) :
    rtcRead (rtcWrite t r v) r' = rtcRead t r' := by
  cases r <;> cases r' <;> try rfl
  all_goals exact absurd rfl h

/-- RTC_DH reads as its three bits, and its bits 5 to 1 as 0 (R40). -/
theorem rtcRead_dh (t : RtcSet) : rtcRead t .dh &&& 0x3E#8 = 0#8
    ∧ (rtcRead t .dh).toNat = carryNat t.dayHigh + 64 * carryNat t.halt + 128 * carryNat t.dayCarry := by
  simp only [rtcRead]
  generalize t.dayHigh = d, t.halt = h, t.dayCarry = c
  revert d h c; decide

/-! ## One second (R90) -/

/-- A six-bit counter reaches 60 by one step exactly if it does as a number. -/
theorem succ_eq_sixty (x : BitVec 6) : x + 1#6 = 60#6 ↔ (x.toNat + 1) % 64 = 60 := by
  revert x; decide

/-- The five-bit counter reaches 24 by one step exactly if it does as a number. -/
theorem succ_eq_twentyFour (x : BitVec 5) : x + 1#5 = 24#5 ↔ (x.toNat + 1) % 32 = 24 := by
  revert x; decide

/-- A counter one step on, as a number. -/
theorem succ_eq_ofNat {n : Nat} (x : BitVec n) : x + 1#n = BitVec.ofNat n ((x.toNat + 1) % 2 ^ n) :=
  BitVec.eq_of_toNat_eq (by simp [BitVec.toNat_add])

/-- The day counter has nine bits. -/
theorem rtcDay_lt (t : RtcSet) : rtcDay t < 512 := by
  have hlow := t.dayLow.isLt
  unfold rtcDay carryNat
  split <;> omega

/-- The day counter in its two fields is the fields as they stand. -/
theorem rtcDay_split (t : RtcSet) :
    BitVec.ofNat 8 (rtcDay t % 256) = t.dayLow ∧ decide (rtcDay t / 256 % 2 = 1) = t.dayHigh
      ∧ (t.dayCarry || rtcDay t == 512) = t.dayCarry := by
  have hlow := t.dayLow.isLt
  have hne : (rtcDay t == 512) = false := beq_eq_false_iff_ne.mpr (rtcDay_lt t).ne
  refine ⟨BitVec.eq_of_toNat_eq ?_, ?_, by rw [hne, Bool.or_false]⟩
  · rw [rtcDay, BitVec.toNat_ofNat]; omega
  · cases hd : t.dayHigh <;> simp [rtcDay, carryNat, hd] <;> omega

/-- The day counter one step on: 512 wraps to 0 with the carry (R90). -/
theorem rtcNextDay_eq (t : RtcSet) : rtcNextDay t = { t with
    dayLow := BitVec.ofNat 8 ((rtcDay t + 1) % 256), dayHigh := decide ((rtcDay t + 1) / 256 % 2 = 1)
    dayCarry := t.dayCarry || rtcDay t + 1 == 512 } := by
  have hlt := rtcDay_lt t
  unfold rtcNextDay
  dsimp only
  by_cases hwrap : rtcDay t + 1 = 512
  · simp [hwrap]
  · have hhigh : (256 ≤ rtcDay t + 1) ↔ (rtcDay t + 1) / 256 % 2 = 1 := by omega
    have hlow : BitVec.ofNat 8 (rtcDay t + 1) = BitVec.ofNat 8 ((rtcDay t + 1) % 256) :=
      BitVec.eq_of_toNat_eq (by simp)
    simp only [if_neg hwrap, hhigh, hlow, beq_eq_false_iff_ne.mpr hwrap, Bool.or_false]

/-- A running clock advances by one second, carries included (R90). -/
theorem rtcAdvance_running {t : RtcSet} (h : t.halt = false) : rtcAdvance t = Claims.nextSecond t := by
  obtain ⟨hdayLow, hdayHigh, hdayCarry⟩ := rtcDay_split t
  have hday : t.dayLow.toNat + 256 * carryNat t.dayHigh = rtcDay t := rfl
  simp only [rtcAdvance, h, Bool.false_eq_true, if_false, ne_eq, succ_eq_sixty, succ_eq_twentyFour, ite_not,
    Claims.nextSecond, hday]
  by_cases hs : (t.seconds.toNat + 1) % 64 = 60
  · by_cases hm : (t.minutes.toNat + 1) % 64 = 60
    · by_cases hh : (t.hours.toNat + 1) % 32 = 24
      · simp only [hs, hm, hh, if_true, and_self, rtcNextDay_eq]
        rfl
      · simp only [hs, hm, hh, if_true, if_false, and_self, and_false, hdayLow, hdayHigh, hdayCarry,
          succ_eq_ofNat, Nat.reducePow]
    · simp only [hs, hm, if_true, if_false, and_false, false_and, hdayLow, hdayHigh, hdayCarry, succ_eq_ofNat,
        Nat.reducePow, BitVec.ofNat_toNat, BitVec.setWidth_eq]
  · simp only [hs, if_false, false_and, hdayLow, hdayHigh, hdayCarry, succ_eq_ofNat, Nat.reducePow,
      BitVec.ofNat_toNat, BitVec.setWidth_eq]

/-- A halted clock stands (R90). -/
theorem rtcAdvance_halted {t : RtcSet} (h : t.halt = true) : rtcAdvance t = t := by
  rw [rtcAdvance, if_pos h]

/-! ## rtc_tick -/

/-- The tick of an MBC3 with a clock (R90). -/
theorem cartRtcTick_clock {c : Cartridge} {r : Mbc3} (hm : c.mbc = .mbc3 r) (hrtc : c.features.rtc = true) :
    cartRtcTick c = { c with mbc := .mbc3 { r with live := rtcAdvance r.live } } := by
  simp only [cartRtcTick, hm, hrtc, if_true]

/-- A cartridge without a clock is not changed by the tick (R90). -/
theorem cartRtcTick_no_clock {c : Cartridge} (h : ∀ r, c.mbc = .mbc3 r → c.features.rtc = false) :
    cartRtcTick c = c := by
  unfold cartRtcTick
  cases hm : c.mbc with
  | mbc3 r => simp [h r hm]
  | _ => rfl

/-- Settles O56: the registers one by one, the second carry by carry, and the tick by the cartridge. -/
theorem realTimeClock : Obligations.RealTimeClock := by
  unfold Obligations.RealTimeClock
  refine ⟨⟨rfl, rfl, rfl, rfl, rfl, fun _ => rtcRegOfSel_outside⟩, rtcRead_rtcWrite_self,
    fun t v r r' => rtcRead_rtcWrite_ne t v, rtcRead_dh, fun t => ⟨rtcAdvance_halted, rtcAdvance_running⟩, ?_, ?_⟩
  · intro s c r hc hm hrtc
    rw [hostRtcTick, hc, Option.map_some, cartRtcTick_clock hm hrtc]
  · intro s h
    have hcart : s.cart.map cartRtcTick = s.cart := by
      cases hc : s.cart with
      | none => rfl
      | some c => rw [Option.map_some, cartRtcTick_no_clock (h c · hc)]
    rw [hostRtcTick, hcart]

end Sys2Proof.Machine
end

section
/-! PROOF. The decoder and the encoder are inverse to each other (R102, R116, R117, R119, R121). -/

namespace Sys2Proof

/-! ## The decoder by the length of an instruction -/

/-- The bytes after an opcode that its length asks for are none, one or two (R102). -/
theorem operandBytes_cases {b0 : Byte} {bs : List Byte} (h : bs.length + 1 = instrLength b0) :
    bs = [] ∨ (∃ b1, bs = [b1]) ∨ ∃ b1 b2, bs = [b1, b2] := by
  match bs with
  | [] => exact .inl rfl
  | [b1] => exact .inr (.inl ⟨b1, rfl⟩)
  | [b1, b2] => exact .inr (.inr ⟨b1, b2, rfl⟩)
  | _ :: _ :: _ :: _ => have := instrLength_cases b0; simp only [List.length_cons] at h; omega

/-- An opcode with the operand bytes it asks for decodes, whatever follows (R119). -/
theorem decode_append {b0 : Byte} {bs : List Byte} (h : bs.length + 1 = instrLength b0) (rest : List Byte) :
    decode (b0 :: bs ++ rest) = .ok (decodeParts b0 (bs.getD 0 0#8) (bs.getD 1 0#8), rest) := by
  obtain rfl | ⟨b1, rfl⟩ | ⟨b1, b2, rfl⟩ := operandBytes_cases h
  all_goals
    simp only [List.length_nil, List.length_cons] at h
    simp only [List.cons_append, List.nil_append, decode, ← h]
    rfl

/-- What decodes is an opcode with the operand bytes it asks for, and the rest (R119). -/
theorem decode_ok {bytes rest : List Byte} {i : Instr} (h : decode bytes = .ok (i, rest)) :
    ∃ b0 bs, bytes = b0 :: bs ++ rest ∧ bs.length + 1 = instrLength b0
      ∧ i = decodeParts b0 (bs.getD 0 0#8) (bs.getD 1 0#8) := by
  unfold decode at h
  split at h
  · cases h
  next b0 tail =>
    split at h
    next h1 => cases h; exact ⟨b0, [], rfl, by simp [h1], rfl⟩
    next h1 =>
      split at h
      next h2 =>
        split at h
        next b1 _ => cases h; exact ⟨b0, [b1], rfl, by simp [h2], rfl⟩
        · cases h
      next h2 =>
        have h3 : instrLength b0 = 3 := by have := instrLength_cases b0; omega
        split at h
        next b1 b2 _ => cases h; exact ⟨b0, [b1, b2], rfl, by simp [h3], rfl⟩
        · cases h

/-! ## The round trips -/

/-- The instruction that an opcode and its operand bytes decode to has those bytes (R118). -/
theorem encode_decodeParts_operands {b0 : Byte} {bs : List Byte} (h : bs.length + 1 = instrLength b0) :
    encode (decodeParts b0 (bs.getD 0 0#8) (bs.getD 1 0#8)) = b0 :: bs := by
  rw [encode_decodeParts, ← h]
  obtain rfl | ⟨b1, rfl⟩ | ⟨b1, b2, rfl⟩ := operandBytes_cases h <;> rfl

/-- A well-formed instruction is an opcode with the operand bytes it asks for, and they decode to it (R118). -/
theorem encode_wellFormed {i : Instr} (h : i.wellFormed = true) :
    ∃ b0 bs, encode i = b0 :: bs ∧ bs.length + 1 = instrLength b0
      ∧ decodeParts b0 (bs.getD 0 0#8) (bs.getD 1 0#8) = i := by
  cases i
  case prefixCb => cases h
  case ldBcN16 n | ldAtN16Sp n | ldDeN16 n | ldHlN16 n | ldSpN16 n | jpNzN16 n | jpN16 n | callNzN16 n | jpZN16 n
      | callZN16 n | callN16 n | jpNcN16 n | callNcN16 n | jpCN16 n | callCN16 n | ldAtN16A n | ldAAtN16 n =>
    exact ⟨_, [lowByte n, highByte n], rfl, rfl, congrArg _ (pack_split n)⟩
  all_goals exact ⟨_, _, rfl, rfl, rfl⟩

/-- Settles O4: the bytes of the instruction are an opcode and its operands, which decode to it. -/
theorem decodeOfEncode : Obligations.DecodeOfEncode := by
  unfold Obligations.DecodeOfEncode
  intro i rest hwf
  obtain ⟨b0, bs, hbytes, hlen, hparts⟩ := encode_wellFormed hwf
  rw [hbytes, decode_append hlen, hparts]

/-- What decodes is well formed and has the bytes it was decoded from (R119, R121). -/
theorem encode_of_decode_ok {bytes rest : List Byte} {i : Instr} (h : decode bytes = .ok (i, rest)) :
    i.wellFormed = true ∧ encode i ++ rest = bytes := by
  obtain ⟨b0, bs, rfl, hlen, rfl⟩ := decode_ok h
  exact ⟨decodeParts_wellFormed .., by rw [encode_decodeParts_operands hlen]⟩

/-- Settles O5: what decodes is an opcode with its operands, and three bytes hold the operands of any opcode. -/
theorem encodeOfDecode : Obligations.EncodeOfDecode := by
  unfold Obligations.EncodeOfDecode
  refine ⟨fun _ _ _ => encode_of_decode_ok, fun b0 b1 b2 rest => ?_⟩
  have decodes : ∀ bs left, bs ++ left = b1 :: b2 :: rest → bs.length + 1 = instrLength b0 →
      ∃ i left, decode (b0 :: b1 :: b2 :: rest) = .ok (i, left) ∧ (encode i).length = instrLength b0 := by
    intro bs left hsplit hlen
    refine ⟨_, left, by rw [← hsplit]; exact decode_append hlen left, ?_⟩
    rw [encode_decodeParts_operands hlen, List.length_cons, hlen]
  obtain hlen | hlen | hlen := instrLength_cases b0
  · exact decodes [] (b1 :: b2 :: rest) rfl hlen.symm
  · exact decodes [b1] (b2 :: rest) rfl hlen.symm
  · exact decodes [b1, b2] rest rfl hlen.symm

/-- Settles O3: each word is the bytes of its instruction, which decode to it. -/
theorem decodesSpecWords : Obligations.DecodesSpecWords := by
  unfold Obligations.DecodesSpecWords
  have word : ∀ i : Instr, i.wellFormed = true → decode (encode i) = .ok (i, []) := fun i h => by
    simpa using decodeOfEncode i [] h
  exact ⟨word .ldBC rfl, word (.ldAN8 0x42#8) rfl, word (.ldHlN16 0x1234#16) rfl, word .pushAf rfl, word .addAAtHl rfl,
    word (.cpN8 0x2F#8) rfl, word .incL rfl, word .addHlSp rfl, word .rrca rfl, word .rlcB rfl, word .bit7AtHl rfl,
    word .set3E rfl, word (.jpN16 0x0150#16) rfl, word (.jrCE8 0x80#8) rfl, word .rst38 rfl, word .retNc rfl,
    word .halt rfl, word (.stop 0x00#8) rfl, word .undefD3 rfl⟩

/-! ## The undefined bytes -/

/-- The opcodes without an instruction (R117). -/
def undefinedOpcodes : List Byte :=
  [0xD3#8, 0xDB#8, 0xDD#8, 0xE3#8, 0xE4#8, 0xEB#8, 0xEC#8, 0xED#8, 0xF4#8, 0xFC#8, 0xFD#8]

/-- An undefined byte decodes alone, to an instruction that names it. -/
theorem decodeParts_undefined : ∀ b ∈ undefinedOpcodes,
    instrLength b = 1 ∧ (decodeParts b 0#8 0#8).form = .undefined b := by decide

/-- An undefined instruction names one of the undefined bytes. -/
theorem mem_undefinedOpcodes_of_form {i : Instr} {u : Byte} (h : i.form = .undefined u) : u ∈ undefinedOpcodes := by
  cases i
  case undefD3 | undefDB | undefDD | undefE3 | undefE4 | undefEB | undefEC | undefED | undefF4 | undefFC | undefFD =>
    cases h; decide
  all_goals cases h

/-- Settles O6: the bytes of an undefined instruction are the byte it names. -/
theorem undefinedBytes : Obligations.UndefinedBytes := by
  unfold Obligations.UndefinedBytes
  intro b rest
  constructor
  · intro hb
    obtain ⟨hlen, hform⟩ := decodeParts_undefined b hb
    exact ⟨_, decode_append (bs := []) hlen.symm rest, hform⟩
  · intro i left u hdecode hform
    obtain ⟨-, hbytes⟩ := encode_of_decode_ok hdecode
    rw [encode, hform] at hbytes
    obtain rfl : u = b := (List.cons.inj hbytes).1
    exact ⟨rfl, mem_undefinedOpcodes_of_form hform⟩

end Sys2Proof
end

section
/-! PROOF. The prefixed map by its fields, and the prefix row (R104, R105, R116). -/

namespace Sys2Proof

/-! ## The fields of the byte after 0xCB -/

/-- The fields x, y and z of a byte (R116). -/
theorem byte_fields (x : BitVec 2) (y z : BitVec 3) :
    (x ++ y ++ z).toNat / 64 = x.toNat ∧ (x ++ y ++ z).toNat / 8 % 8 = y.toNat ∧ (x ++ y ++ z).toNat % 8 = z.toNat := by
  revert x y z; decide

/-- The code of a register selects it (R105). -/
theorem reg8OfCode_code (r : Reg8) : reg8OfCode r.code.toNat = some r := by cases r <;> rfl

/-- The code of a rotate or shift selects it (R116). -/
theorem rotOpOfCode_code (op : RotOp) : rotOpOfCode op.code.toNat = op := by cases op <;> rfl

/-- An index is the number its field holds (R104). -/
theorem indexCode_toNat (n : Fin 8) : (indexCode n).toNat = n.val := by revert n; decide

/-- The byte of a prefixed form selects it by its fields (R116). -/
theorem cbForm_of_byte (f : CbForm) : cbForm f.byte = f := by
  cases f
  all_goals
    simp only [CbForm.byte, cbForm, byte_fields, reg8OfCode_code, rotOpOfCode_code, indexCode_toNat]
    rfl

end Sys2Proof

namespace Sys2Proof.Machine

/-! ## The prefix row -/

/-- A prefixed instruction completes where the byte at HL can be accessed, for 8, 12 or 16 cycles, and keeps PC
(R191 to R212). -/
theorem runCb_free (f : CbForm) {s : State} (h : s.irBlocked s.hl = false) :
    ∃ t, runCb f s = .next t ∧ t.pc = s.pc
      ∧ (t.cycles = s.cycles + 8 ∨ t.cycles = s.cycles + 12 ∨ t.cycles = s.cycles + 16) := by
  cases f <;> simp only [runCb, rotReg, rotHl, bitReg, bitHl, resReg, resHl, setReg, setHl]
  case rotReg | bitReg | resReg | setReg => exact ⟨_, rfl, by simp, .inl (by simp)⟩
  case bitHl => exact ⟨_, readHl_free _ h, by simp, .inr (.inl (by simp))⟩
  case rotHl | resHl | setHl => exact ⟨_, modifyHl_free _ _ h, by simp, .inr (.inr (by simp))⟩

/-- Settles O7: the fields by the forms they select, and the prefix row by its form. -/
theorem prefixRow : Obligations.PrefixRow := by
  unfold Obligations.PrefixRow
  refine ⟨fun op n r => ?_, ⟨rfl, rfl, rfl, rfl, rfl, rfl, rfl, rfl⟩, ⟨rfl, rfl, rfl, rfl, rfl, rfl, rfl⟩,
    fun cbop rest => ⟨decodeCb cbop, rfl, decodeCb_form cbop, cbForm_byte cbop, fun s => ?_⟩⟩
  · exact ⟨cbForm_of_byte (.rotReg op r), cbForm_of_byte (.rotHl op), cbForm_of_byte (.bitReg n r),
      cbForm_of_byte (.bitHl n), cbForm_of_byte (.resReg n r), cbForm_of_byte (.resHl n),
      cbForm_of_byte (.setReg n r), cbForm_of_byte (.setHl n)⟩
  · exact ⟨by rw [exec_form, exec_form, decodeCb_form]; rfl, runCb_free (cbForm cbop)⟩

end Sys2Proof.Machine
end

section
/-! PROOF. The conditions and the jumps (R108, R213 to R217). -/

namespace Sys2Proof.Machine

/-- A word and a sign-extended byte add as integers, modulo 2^16 (R12). -/
theorem add_sext16 (w : Addr) (n : Byte) : w + sext16 n = BitVec.ofInt 16 (w.toNat + n.toInt) := by
  rw [BitVec.ofInt_add, BitVec.ofInt_natCast, BitVec.ofNat_toNat, BitVec.setWidth_eq]
  rfl

/-- The conditions by the bits of F (R26, R108). -/
theorem cond_bits (s : State) :
    s.cond .nz = (s.f.getLsbD 7 == false) ∧ s.cond .z = s.f.getLsbD 7
      ∧ s.cond .nc = (s.f.getLsbD 4 == false) ∧ s.cond .c = s.f.getLsbD 4 := by
  simp [State.cond, State.flagZ, State.flagC, bitOf]

/-- Settles O45: form by form, a relative target as an integer sum. -/
theorem jumps : Obligations.Jumps := by
  unfold Obligations.Jumps
  intro i s cc n n8
  rw [exec_form, encode]
  refine ⟨cond_bits s, fun h => ?jp, fun h => ?jpCond, fun h => ?jpHl, fun h => ?jr, fun h => ?jrCond⟩
  all_goals rw [h]
  case jp | jpHl => exact ⟨rfl, rfl⟩
  case jpCond => exact ⟨rfl, (apply_ite _ ..).symm⟩
  case jr => rw [← add_sext16]; exact ⟨rfl, rfl⟩
  case jrCond => rw [← add_sext16]; exact ⟨rfl, (apply_ite _ ..).symm⟩

end Sys2Proof.Machine
end

section
/-! PROOF. The 8-bit loads and stores (R124 to R142): a free access runs its continuation, the cost is added to the
cycles of the state before, and HL steps modulo 2^16. -/

namespace Sys2Proof.Machine

/-! ## The cost after a write -/

/-- The cost of an instruction that writes a register, from the cycles before (R33). -/
theorem tick_setReg (s : State) (r : Reg8) (v : Byte) (n : Nat) :
    (s.setReg r v).tick n = { s.setReg r v with cycles := s.cycles + n } := by
  rw [State.tick, State.setReg_cycles]

/-- The cost of an instruction that stores a byte, from the cycles before (R33). -/
theorem tick_busWrite (s : State) (addr : Addr) (v : Byte) (n : Nat) :
    (s.busWrite addr v).tick n = { s.busWrite addr v with cycles := s.cycles + n } := by
  rw [State.tick, State.busWrite_cycles]

/-! ## Accesses outside the infrared window -/

/-- A free load of a register from HL (R126). -/
theorem ldRegHl_free {s : State} (dst : Reg8) (h : s.irBlocked s.hl = false) :
    ldRegHl dst s = .next { s.setReg dst (s.busRead s.hl) with cycles := s.cycles + 8 } := by
  rw [ldRegHl, readHl_free _ h, tick_setReg]

/-- A free store of a byte to HL, and nothing after it (R127, R128). -/
theorem writeHl_tick_free {s : State} (v : Byte) (n : Nat) (h : s.irBlocked s.hl = false) :
    writeHl s v (fun t => .next (t.tick n)) = .next { s.busWrite s.hl v with cycles := s.cycles + n } := by
  rw [writeHl_free _ _ h, tick_busWrite]

/-- A free load of A (R129, R130, R137, R139, R141). -/
theorem loadA_free {s : State} {addr : Addr} (n : Nat) (h : s.irBlocked addr = false) :
    loadA addr n s = .next { s with a := s.busRead addr, cycles := s.cycles + n } :=
  readByte_free _ h

/-- A free store of A (R131, R132, R138, R140, R142). -/
theorem storeA_free {s : State} {addr : Addr} (n : Nat) (h : s.irBlocked addr = false) :
    storeA addr n s = .next { s.busWrite addr s.a with cycles := s.cycles + n } := by
  rw [storeA, writeByte_free _ _ h, tick_busWrite]

/-- A load of A from the high page, which is never blocked (R139, R141). -/
theorem loadA_highPage (s : State) (n : Byte) (cost : Nat) :
    loadA (highPage n) cost s
      = .next { s with a := s.busRead (BitVec.ofNat 16 (0xFF00 + n.toNat)), cycles := s.cycles + cost } := by
  rw [loadA_free _ (irBlocked_highPage s n), highPage_eq]

/-- A store of A to the high page, which is never blocked (R140, R142). -/
theorem storeA_highPage (s : State) (n : Byte) (cost : Nat) :
    storeA (highPage n) cost s
      = .next { s.busWrite (BitVec.ofNat 16 (0xFF00 + n.toNat)) s.a with cycles := s.cycles + cost } := by
  rw [storeA_free _ (irBlocked_highPage s n), highPage_eq]

/-! ## HL after the access -/

/-- One more, modulo 2^16 (R12). -/
theorem add_one_eq_ofNat (w : Addr) : w + 1#16 = BitVec.ofNat 16 (w.toNat + 1) := by
  rw [BitVec.ofNat_add, BitVec.ofNat_toNat, BitVec.setWidth_eq]

/-- One less, modulo 2^16 (R12). -/
theorem add_neg_one_eq_ofInt (w : Addr) : w + -1#16 = BitVec.ofInt 16 ((w.toNat : Int) - 1) := by
  rw [Int.sub_eq_add_neg, BitVec.ofInt_add, BitVec.ofInt_natCast, BitVec.ofNat_toNat, BitVec.setWidth_eq]
  rfl

/-- A byte store leaves HL alone (R133, R134). -/
theorem busWrite_hl (s : State) (addr : Addr) (v : Byte) : (s.busWrite addr v).hl = s.hl := by
  rw [State.hl, State.busWrite_l, State.busWrite_h, ← State.hl]

/-- A free store of A through HL, then the step of HL (R133, R134). -/
theorem storeAHlStep_free {s : State} (delta : Addr) (h : s.irBlocked s.hl = false) :
    storeAHlStep delta s
      = .next { (s.busWrite s.hl s.a).setHl (s.hl + delta) with cycles := s.cycles + 8 } := by
  rw [storeAHlStep, writeHl_free _ _ h, busWrite_hl, State.tick, State.setHl_cycles, State.busWrite_cycles]

/-- A free load of A through HL, then the step of HL (R135, R136). -/
theorem loadAHlStep_free {s : State} (delta : Addr) (h : s.irBlocked s.hl = false) :
    loadAHlStep delta s
      = .next { s.setHl (s.hl + delta) with a := s.busRead s.hl, cycles := s.cycles + 8 } :=
  readHl_free _ h

/-! ## The obligations -/

/-- Settles O25: a register write and its cost. -/
theorem loadRegister : Obligations.LoadRegister := by
  unfold Obligations.LoadRegister
  intro i s dst src n
  rw [exec_form, encode]
  refine ⟨fun h => ?ldRegReg, fun h => ?ldRegImm⟩
  all_goals rw [h, ← tick_setReg]; exact ⟨rfl, rfl⟩

/-- Settles O26: form by form, each access outside the infrared window; the high page is never in it. -/
theorem loadFromMemory : Obligations.LoadFromMemory := by
  unfold Obligations.LoadFromMemory
  intro i s dst n n8
  rw [exec_form, encode]
  refine ⟨fun h hfree => ?ldRegHl, fun h hfree => ?ldABc, fun h hfree => ?ldADe, fun h hfree => ?ldAAbs,
    fun h => ?ldAHigh, fun h => ?ldAHighC⟩
  all_goals rw [h]
  case ldRegHl => exact ⟨rfl, ldRegHl_free dst hfree⟩
  case ldABc | ldADe | ldAAbs => exact ⟨rfl, loadA_free _ hfree⟩
  case ldAHigh => exact ⟨rfl, loadA_highPage s n8 12⟩
  case ldAHighC => exact ⟨rfl, loadA_highPage s s.c 8⟩

/-- Settles O27: form by form, each access outside the infrared window; the high page is never in it. -/
theorem storeToMemory : Obligations.StoreToMemory := by
  unfold Obligations.StoreToMemory
  intro i s src n n8
  rw [exec_form, encode]
  refine ⟨fun h hfree => ?ldHlReg, fun h hfree => ?ldHlImm, fun h hfree => ?ldBcA, fun h hfree => ?ldDeA,
    fun h hfree => ?ldAbsA, fun h => ?ldHighA, fun h => ?ldHighCA⟩
  all_goals rw [h]
  case ldHlReg => exact ⟨rfl, writeHl_tick_free (s.reg src) 8 hfree⟩
  case ldHlImm => exact ⟨rfl, writeHl_tick_free n8 12 hfree⟩
  case ldBcA | ldDeA | ldAbsA => exact ⟨rfl, storeA_free _ hfree⟩
  case ldHighA => exact ⟨rfl, storeA_highPage s n8 12⟩
  case ldHighCA => exact ⟨rfl, storeA_highPage s s.c 8⟩

/-- Settles O28: form by form, HL read before the access and stepped by a sum modulo 2^16. -/
theorem hlStep : Obligations.HlStep := by
  unfold Obligations.HlStep
  intro i s hfree
  rw [exec_form, encode, ← add_one_eq_ofNat, ← add_neg_one_eq_ofInt]
  refine ⟨fun h => ?ldHlIncA, fun h => ?ldHlDecA, fun h => ?ldAHlInc, fun h => ?ldAHlDec⟩
  all_goals rw [h]
  case ldHlIncA | ldHlDecA => exact ⟨rfl, storeAHlStep_free _ hfree⟩
  case ldAHlInc | ldAHlDec => exact ⟨rfl, loadAHlStep_free _ hfree⟩

end Sys2Proof.Machine
end

section
/-! PROOF. The 16-bit loads and the stack instructions (R143 to R150): `Push` and `Pop` outside the infrared window
run their continuation, and the cost is added to the cycles of the state before. -/

namespace Sys2Proof.Machine

/-! ## The 16-bit loads -/

/-- LD dd,n16 (R145). -/
theorem ldPairImm_next (p : Pair) (n : Addr) (s : State) :
    ldPairImm p n s = .next { s.setPair p n with cycles := s.cycles + 12 } := by
  rw [ldPairImm, State.tick, State.setPair_cycles]

/-- LD (n16),SP where neither byte is stored to the infrared window (R146). -/
theorem execLdAtN16Sp_free {s : State} {n : Addr} (hlow : s.irBlocked n = false)
    (hhigh : s.irBlocked (n + 1#16) = false) :
    execLdAtN16Sp n s = .next
      { (s.busWrite n (lowByte s.sp)).busWrite (n + 1#16) (highByte s.sp) with cycles := s.cycles + 20 } := by
  rw [execLdAtN16Sp, writeWord_free _ _ hlow hhigh, tick_busWrite, State.busWrite_cycles]

/-- LD HL,SP+e8, the sum as an integer sum modulo 2^16 (R148). -/
theorem execLdHlSpE8_next (n : Byte) (s : State) :
    execLdHlSpE8 n s = .next { s.setHl (BitVec.ofInt 16 (s.sp.toNat + n.toInt)) with
      f := packFlags false false (spHalf s.sp n) (spCarry s.sp n), cycles := s.cycles + 12 } := by
  rw [← add_sext16]
  rfl

/-! ## The stack -/

/-- `Push` outside the infrared window leaves the pushed state (R143). -/
theorem push_pushed {s : State} (w : Addr) (k : State → Result) (h : Claims.pushFree s) :
    push w s k = k (Claims.pushed w s) :=
  have ⟨hupper, hlower⟩ := h
  push_free w k hupper hlower

/-- `Pop` outside the infrared window hands on the popped word, SP up by 2 (R144). -/
theorem pop_popped {s : State} (k : Addr → State → Result) (h : Claims.popFree s) :
    pop s k = k (Claims.popped s) { s with sp := s.sp + 2#16 } :=
  have ⟨hlow, hhigh⟩ := h
  pop_free k hlow hhigh

/-- A push counts no cycles of its own (R143). -/
@[simp] theorem pushed_cycles (w : Addr) (s : State) : (Claims.pushed w s).cycles = s.cycles := by
  rw [Claims.pushed, State.busWrite_cycles, State.busWrite_cycles]

/-- The write of a popped pair, after SP went up and before the cost is counted (R150). -/
theorem tick_setStackPair_sp (s : State) (q : StackPair) (w sp : Addr) (n : Nat) :
    (State.setStackPair q w { s with sp := sp }).tick n
      = { s.setStackPair q w with sp := sp, cycles := s.cycles + n } := by
  cases q <;> rfl

/-- PUSH qq outside the infrared window (R149). -/
theorem pushPair_free {s : State} (q : StackPair) (h : Claims.pushFree s) :
    pushPair q s = .next { Claims.pushed (s.stackPair q) s with cycles := s.cycles + 16 } := by
  rw [pushPair, push_pushed _ _ h, State.tick, pushed_cycles]

/-- POP qq outside the infrared window (R150). -/
theorem popPair_free {s : State} (q : StackPair) (h : Claims.popFree s) :
    popPair q s
      = .next { s.setStackPair q (Claims.popped s) with sp := s.sp + 2#16, cycles := s.cycles + 12 } := by
  rw [popPair, pop_popped _ h, tick_setStackPair_sp]

/-! ## The obligations -/

/-- Settles O29: form by form; only LD (n16),SP accesses memory, in two slots outside the infrared window. -/
theorem load16 : Obligations.Load16 := by
  unfold Obligations.Load16
  intro i s p n n8
  rw [exec_form, encode]
  refine ⟨fun h => ?ldPairImm, fun h hlow hhigh => ?ldAbsSp, fun h => ?ldSpHl, fun h => ?ldHlSpOff⟩
  all_goals rw [h]
  case ldPairImm => exact ⟨rfl, ldPairImm_next p n s⟩
  case ldAbsSp => exact ⟨rfl, execLdAtN16Sp_free hlow hhigh⟩
  case ldSpHl => exact ⟨rfl, rfl⟩
  case ldHlSpOff => exact ⟨rfl, execLdHlSpE8_next n8 s⟩

/-- Settles O30: `Push` for any continuation, then PUSH qq as its instance. -/
theorem pushPair_pushes : Obligations.PushPair := by
  unfold Obligations.PushPair
  refine ⟨fun s w k hfree => push_pushed w k hfree, fun i s q h hfree => ?_⟩
  rw [exec_form, encode, h]
  exact ⟨rfl, pushPair_free q hfree⟩

/-- Settles O31: `Pop` for any continuation, then POP qq as its instance. -/
theorem popPair_pops : Obligations.PopPair := by
  unfold Obligations.PopPair
  refine ⟨fun s k hfree => pop_popped k hfree, fun i s q h hfree => ?_⟩
  rw [exec_form, encode, h]
  exact ⟨rfl, popPair_free q hfree⟩

end Sys2Proof.Machine
end

section
/-! PROOF. 8-bit arithmetic and logic (R151 to R182): each result and its flags as the rule states them in whole
numbers, then each operand form with its cost. -/

namespace Sys2Proof.Machine

/-! ## Bytes as whole numbers -/

/-- Z of a sum: the number is 0 modulo 256 (R12). -/
theorem ofNat_beq_zero (t : Nat) : (BitVec.ofNat 8 t == 0#8) = decide (t % 256 = 0) := by
  rw [beq_eq_decide_toNat, BitVec.toNat_ofNat]
  rfl

/-- Z of a difference: the number is 0 modulo 256 (R12). -/
theorem ofInt_beq_zero (t : Int) : (BitVec.ofInt 8 t == 0#8) = decide (t % 256 = 0) := by
  have hiff : (t % 256).toNat = 0 ↔ t % 256 = 0 := by omega
  rw [beq_eq_decide_toNat, BitVec.toNat_ofInt]
  exact decide_eq_decide.mpr hiff

/-- A sum of bytes as a sum of numbers, modulo 256 (R12). -/
theorem add_ofNat_eq_ofNat (v : Byte) (k : Nat) : v + BitVec.ofNat 8 k = BitVec.ofNat 8 (v.toNat + k) := by
  rw [BitVec.ofNat_add, BitVec.ofNat_toNat, BitVec.setWidth_eq]

/-- A difference of bytes as a difference of numbers, modulo 256 (R12). -/
theorem sub_ofNat_eq_ofInt (v : Byte) (k : Nat) : v - BitVec.ofNat 8 k = BitVec.ofInt 8 ((v.toNat : Int) - k) := by
  rw [Int.sub_eq_add_neg, BitVec.ofInt_add, BitVec.ofInt_neg, BitVec.ofInt_natCast, BitVec.ofInt_natCast,
    BitVec.ofNat_toNat, BitVec.setWidth_eq, BitVec.sub_eq_add_neg]

/-! ## The accumulator operations (R151 to R174) -/

/-- A and F after a sum (R151, R154). -/
theorem addOut_added (s : State) (v : Byte) (c : Bool) (n : Nat) :
    (State.aluFlags (addOut s.a v c) { s with a := (addOut s.a v c).val }).tick n
      = Claims.added s v (carryNat c) n := by
  rw [Claims.added, ← ofNat_beq_zero]
  rfl

/-- F after a difference (R157, R160, R172). -/
theorem subOut_flags (a v : Byte) (c : Bool) :
    packFlags (subOut a v c).z (subOut a v c).n (subOut a v c).h (subOut a v c).c
      = Claims.subFlags a v (carryNat c) := by
  rw [Claims.subFlags, ← ofInt_beq_zero]
  rfl

/-- A and F after a difference (R157, R160). -/
theorem subOut_subtracted (s : State) (v : Byte) (c : Bool) (n : Nat) :
    (State.aluFlags (subOut s.a v c) { s with a := (subOut s.a v c).val }).tick n
      = Claims.subtracted s v (carryNat c) n := by
  rw [Claims.subtracted, ← subOut_flags]
  rfl

/-- F after a comparison, A kept (R172). -/
theorem subOut_compared (s : State) (v : Byte) (n : Nat) :
    (s.aluFlags (subOut s.a v false)).tick n = Claims.compared s v n := by
  have hflags : _ = Claims.subFlags s.a v 0 := subOut_flags s.a v false
  rw [Claims.compared, ← hflags]
  rfl

/-- A and F after a logic operation (R163, R166, R169). -/
theorem logicOut_logical (s : State) (w : Byte) (h : Bool) (n : Nat) :
    (State.aluFlags (logicOut w h) { s with a := w }).tick n = Claims.logical s w h n := by
  rw [Claims.logical, ← Bool.beq_eq_decide_eq]
  rfl

/-- The state after each accumulator operation and its cost. -/
def aluPost (op : AluOp) (s : State) (v : Byte) (n : Nat) : State :=
  match op with
  | .add => Claims.added s v 0 n
  | .adc => Claims.added s v (carryNat s.flagC) n
  | .sub => Claims.subtracted s v 0 n
  | .sbc => Claims.subtracted s v (carryNat s.flagC) n
  | .and => Claims.logical s (s.a &&& v) true n
  | .xor => Claims.logical s (s.a ^^^ v) false n
  | .or => Claims.logical s (s.a ||| v) false n
  | .cp => Claims.compared s v n

/-- Each accumulator operation leaves the state its rule states (R151 to R174). -/
theorem aluApply_tick (op : AluOp) (s : State) (v : Byte) (n : Nat) :
    (s.aluApply op v).tick n = aluPost op s v n := by
  cases op with
  | add => exact addOut_added s v false n
  | adc => exact addOut_added s v s.flagC n
  | sub => exact subOut_subtracted s v false n
  | sbc => exact subOut_subtracted s v s.flagC n
  | and => exact logicOut_logical s (s.a &&& v) true n
  | xor => exact logicOut_logical s (s.a ^^^ v) false n
  | or => exact logicOut_logical s (s.a ||| v) false n
  | cp => exact subOut_compared s v n

/-- The register form (R151, R154, R157, R160, R163, R166, R169, R172). -/
theorem aluReg_next (op : AluOp) (r : Reg8) (s : State) : aluReg op r s = .next (aluPost op s (s.reg r) 4) := by
  rw [aluReg, aluApply_tick]

/-- The n8 form (R153, R156, R159, R162, R165, R168, R171, R174). -/
theorem aluImm_next (op : AluOp) (n : Byte) (s : State) : aluImm op n s = .next (aluPost op s n 8) := by
  rw [aluImm, aluApply_tick]

/-- The (HL) form outside the infrared window (R152, R155, R158, R161, R164, R167, R170, R173). -/
theorem aluHl_free (op : AluOp) {s : State} (h : s.irBlocked s.hl = false) :
    aluHl op s = .next (aluPost op s (s.busRead s.hl) 8) := by
  rw [aluHl, readHl_free _ h, aluApply_tick]

/-- XOR A leaves A = 0x00 and Z alone, whatever A was (R166). -/
theorem xorA_clears (s : State) :
    aluReg .xor .a s = .next { s with a := 0x00#8, f := 0x80#8, cycles := s.cycles + 4 } := by
  rw [aluReg_next, aluPost, State.reg, BitVec.xor_self]
  rfl

/-! ## INC and DEC of a byte (R175 to R178) -/

/-- INC's byte and F, C kept (R175). -/
theorem incOut_eq (v : Byte) (c : Bool) : incOut v c
    = { val := BitVec.ofNat 8 (v.toNat + 1), z := (v.toNat + 1) % 256 = 0, n := false, h := v.toNat % 16 = 15
        c := c } := by
  have hhalf : (v &&& 0x0F#8 == 0x0F#8) = decide (v.toNat % 16 = 15) := by revert v; decide
  rw [incOut, hhalf, add_ofNat_eq_ofNat, ofNat_beq_zero]

/-- DEC's byte and F, C kept (R177). -/
theorem decOut_eq (v : Byte) (c : Bool) : decOut v c
    = { val := BitVec.ofInt 8 ((v.toNat : Int) - 1), z := v.toNat = 1, n := true, h := v.toNat % 16 = 0, c := c } := by
  have hzero : (v - 1#8 == 0#8) = decide (v.toNat = 1) := by revert v; decide
  have hhalf : (v &&& 0x0F#8 == 0x00#8) = decide (v.toNat % 16 = 0) := by revert v; decide
  rw [decOut, hzero, hhalf, sub_ofNat_eq_ofInt]
  rfl

/-- The flags of an 8-bit result and the cost, after a register write (R175, R177). -/
theorem setReg_aluFlags_tick (s : State) (r : Reg8) (v : Byte) (o : AluOut) (n : Nat) :
    ((s.setReg r v).aluFlags o).tick n
      = { s.setReg r v with f := packFlags o.z o.n o.h o.c, cycles := s.cycles + n } := by
  rw [State.tick, State.aluFlags_cycles, State.setReg_cycles]
  rfl

/-- The flags of an 8-bit result and the cost, after a byte store (R176, R178). -/
theorem busWrite_aluFlags_tick (s : State) (addr : Addr) (v : Byte) (o : AluOut) (n : Nat) :
    ((s.busWrite addr v).aluFlags o).tick n
      = { s.busWrite addr v with f := packFlags o.z o.n o.h o.c, cycles := s.cycles + n } := by
  rw [State.tick, State.aluFlags_cycles, State.busWrite_cycles]
  rfl

/-! ## DAA, CPL (R179, R180) -/

/-- The adjustment byte as a number (R179). -/
theorem daaAdjustment_eq_ofNat (high low : Prop) [Decidable high] [Decidable low] :
    ((if high then 0x60#8 else 0#8) ||| (if low then 0x06#8 else 0#8))
      = BitVec.ofNat 8 ((if high then 0x60 else 0) + (if low then 0x06 else 0)) := by
  split <;> split <;> rfl

/-- What DAA computes, in whole numbers (R179). -/
theorem daaOut_eq (s : State) : daaOut s.a s.flagN s.flagH s.flagC
    = { val := Claims.daaResult s, z := Claims.daaResult s = 0#8, n := s.flagN, h := false
        c := Claims.daaCarry s } := by
  rw [daaOut, Claims.daaResult, Claims.daaAdjust, Claims.daaCarry, ← Bool.beq_eq_decide_eq]
  cases s.flagN with
  | true => simp [daaAdjustment_eq_ofNat, sub_ofNat_eq_ofInt]
  | false =>
    simp only [Bool.or_eq_true, decide_eq_true_eq, daaAdjustment_eq_ofNat, add_ofNat_eq_ofNat, Bool.false_eq_true,
      if_false, Bool.not_false, Bool.true_and]

/-- The complement of a byte in whole numbers (R180). -/
theorem complement_eq_ofNat (v : Byte) : v ^^^ 0xFF#8 = BitVec.ofNat 8 (255 - v.toNat) := by
  revert v; decide

/-! ## The obligations -/

/-- Settles O33: the three operand forms of each sum. -/
theorem addAdc : Obligations.AddAdc := by
  unfold Obligations.AddAdc
  intro i s r n
  rw [exec_form, encode]
  refine ⟨fun h => ?addReg, fun h hfree => ?addHl, fun h => ?addImm, fun h => ?adcReg, fun h hfree => ?adcHl,
    fun h => ?adcImm⟩
  all_goals rw [h]
  case addReg | adcReg => exact ⟨rfl, aluReg_next _ r s⟩
  case addHl | adcHl => exact ⟨rfl, aluHl_free _ hfree⟩
  case addImm | adcImm => exact ⟨rfl, aluImm_next _ n s⟩

/-- Settles O34: the three operand forms of each difference. -/
theorem subSbcCp : Obligations.SubSbcCp := by
  unfold Obligations.SubSbcCp
  intro i s r n
  rw [exec_form, encode]
  refine ⟨fun h => ?subReg, fun h hfree => ?subHl, fun h => ?subImm, fun h => ?sbcReg, fun h hfree => ?sbcHl,
    fun h => ?sbcImm, fun h => ?cpReg, fun h hfree => ?cpHl, fun h => ?cpImm⟩
  all_goals rw [h]
  case subReg | sbcReg | cpReg => exact ⟨rfl, aluReg_next _ r s⟩
  case subHl | sbcHl | cpHl => exact ⟨rfl, aluHl_free _ hfree⟩
  case subImm | sbcImm | cpImm => exact ⟨rfl, aluImm_next _ n s⟩

/-- Settles O35: the three operand forms of each logic operation, and XOR A. -/
theorem logic8 : Obligations.Logic8 := by
  unfold Obligations.Logic8
  intro i s r n
  rw [exec_form, encode]
  refine ⟨fun h => ?andReg, fun h hfree => ?andHl, fun h => ?andImm, fun h => ?xorReg, fun h hfree => ?xorHl,
    fun h => ?xorImm, fun h => ?orReg, fun h hfree => ?orHl, fun h => ?orImm, fun h => ?xorA⟩
  all_goals rw [h]
  case andReg | xorReg | orReg => exact ⟨rfl, aluReg_next _ r s⟩
  case andHl | xorHl | orHl => exact ⟨rfl, aluHl_free _ hfree⟩
  case andImm | xorImm | orImm => exact ⟨rfl, aluImm_next _ n s⟩
  case xorA => exact xorA_clears s

/-- Settles O36: the byte up or down by one, its flags, and the cost after the write. -/
theorem incDec8 : Obligations.IncDec8 := by
  unfold Obligations.IncDec8
  intro i s r
  rw [exec_form, encode]
  refine ⟨fun h => ?incReg, fun h hfree => ?incAtHl, fun h => ?decReg, fun h hfree => ?decAtHl⟩
  all_goals rw [h]; refine ⟨rfl, ?_⟩
  case incReg => rw [execForm, incReg, setReg_aluFlags_tick, incOut_eq]
  case incAtHl => rw [execForm, execIncAtHl, modifyHl_free _ _ hfree, busWrite_aluFlags_tick, incOut_eq]
  case decReg => rw [execForm, decReg, setReg_aluFlags_tick, decOut_eq]
  case decAtHl => rw [execForm, execDecAtHl, modifyHl_free _ _ hfree, busWrite_aluFlags_tick, decOut_eq]

/-- Settles O37: the adjustment in whole numbers. -/
theorem decimalAdjust : Obligations.DecimalAdjust := by
  unfold Obligations.DecimalAdjust
  intro i s h
  rw [exec_form, encode, h, execForm, execDaa, daaOut_eq]
  exact ⟨rfl, rfl⟩

/-- Settles O38: A complemented in whole numbers, and the flags written. -/
theorem cplScfCcf : Obligations.CplScfCcf := by
  unfold Obligations.CplScfCcf
  intro i s
  rw [exec_form, encode, ← complement_eq_ofNat]
  refine ⟨fun h => ?cpl, fun h => ?scf, fun h => ?ccf⟩
  all_goals rw [h]; exact ⟨rfl, rfl⟩

end Sys2Proof.Machine
end

section
/-! PROOF. 16-bit arithmetic (R183 to R186): each word as the rule states it in whole numbers modulo 2^16, and the
cost added to the cycles of the state before. -/

namespace Sys2Proof.Machine

/-- The cost of an instruction that writes a pair, from the cycles before (R33). -/
theorem tick_setPair (s : State) (p : Pair) (w : Addr) (n : Nat) :
    (s.setPair p w).tick n = { s.setPair p w with cycles := s.cycles + n } := by
  rw [State.tick, State.setPair_cycles]

/-- ADD HL,ss, the sum in whole numbers modulo 2^16, Z kept (R183). -/
theorem addHl_next (p : Pair) (s : State) :
    addHl p s = .next { s.setHl (BitVec.ofNat 16 (s.hl.toNat + (s.pair p).toNat)) with
      f := packFlags s.flagZ false (addHlHalf s.hl (s.pair p)) (addHlCarry s.hl (s.pair p))
      cycles := s.cycles + 8 } := by
  rw [← BitVec.add_def]
  rfl

/-- INC ss, one more modulo 2^16 (R184). -/
theorem incPair_next (p : Pair) (s : State) :
    incPair p s
      = .next { s.setPair p (BitVec.ofNat 16 ((s.pair p).toNat + 1)) with cycles := s.cycles + 8 } := by
  rw [incPair, tick_setPair, add_one_eq_ofNat]

/-- DEC ss, one less modulo 2^16 (R185). -/
theorem decPair_next (p : Pair) (s : State) :
    decPair p s
      = .next { s.setPair p (BitVec.ofInt 16 (((s.pair p).toNat : Int) - 1)) with cycles := s.cycles + 8 } := by
  rw [decPair, tick_setPair, BitVec.sub_eq_add_neg, add_neg_one_eq_ofInt]

/-- ADD SP,e8, the sum as an integer sum modulo 2^16, the flags of the low byte (R186). -/
theorem execAddSpE8_next (n : Byte) (s : State) :
    execAddSpE8 n s = .next { s with
      sp := BitVec.ofInt 16 (s.sp.toNat + n.toInt)
      f := packFlags false false (spHalf s.sp n) (spCarry s.sp n), cycles := s.cycles + 16 } := by
  rw [← add_sext16]
  rfl

/-- Settles O39: form by form, each word in whole numbers modulo 2^16. -/
theorem arith16 : Obligations.Arith16 := by
  unfold Obligations.Arith16
  intro i s p n8
  rw [exec_form, encode]
  refine ⟨fun h => ?addHl, fun h => ?incPair, fun h => ?decPair, fun h => ?addSp⟩
  all_goals rw [h]
  case addHl => exact ⟨rfl, addHl_next p s⟩
  case incPair => exact ⟨rfl, incPair_next p s⟩
  case decPair => exact ⟨rfl, decPair_next p s⟩
  case addSp => exact ⟨rfl, execAddSpE8_next n8 s⟩

end Sys2Proof.Machine
end

section
/-! PROOF. Rotates, shifts and SWAP (R187 to R206): each byte and its carry as the rule states them in whole numbers,
then the accumulator, the register and the (HL) forms. -/

namespace Sys2Proof.Machine

/-! ## The byte and its flags (R191 to R206) -/

/-- A rotate or shift, in whole numbers. -/
theorem rotOut_eq (op : RotOp) (v : Byte) (c : Bool) :
    rotOut op v c = { val := Claims.shiftedByte op v c, c := Claims.shiftedCarry op v.toNat } := by
  cases op
  all_goals revert v c; decide

/-- The number a rotate or shift gives fits in a byte. -/
theorem shifted_lt (op : RotOp) (v : Byte) (c : Bool) : Claims.shifted op v.toNat (carryNat c) < 256 := by
  have hv : v.toNat < 256 := v.isLt
  have hc : carryNat c ≤ 1 := by cases c <;> decide
  cases op <;> simp only [Claims.shifted] <;> omega

/-- Z of a rotated or shifted byte: its number is 0 (R191 to R206). -/
theorem shiftedByte_beq_zero (op : RotOp) (v : Byte) (c : Bool) :
    (Claims.shiftedByte op v c == 0#8) = decide (Claims.shifted op v.toNat (carryNat c) = 0) := by
  rw [Claims.shiftedByte, ofNat_beq_zero, Nat.mod_eq_of_lt (shifted_lt op v c)]

/-- F after a prefixed rotate or shift (R191 to R206). -/
theorem rotFlags_rotOut (s : State) (op : RotOp) (v : Byte) (c : Bool) :
    s.rotFlags (rotOut op v c) = { s with f := Claims.shiftedFlags op v c } := by
  rw [rotOut_eq, State.rotFlags, State.writeFlags, shiftedByte_beq_zero]
  rfl

/-! ## The operand forms -/

/-- RLCA, RRCA, RLA and RRA: Z clear whatever the result (R187 to R190). -/
theorem rotA_next (op : RotOp) (s : State) :
    rotA op s = .next { s with
      a := Claims.shiftedByte op s.a s.flagC
      f := packFlags false false false (Claims.shiftedCarry op s.a.toNat), cycles := s.cycles + 4 } := by
  rw [rotA, rotOut_eq]
  rfl

/-- The register form (R191, R193, R195, R197, R199, R201, R203, R205). -/
theorem rotReg_next (op : RotOp) (r : Reg8) (s : State) :
    rotReg op r s = .next { s.setReg r (Claims.shiftedByte op (s.reg r) s.flagC) with
      f := Claims.shiftedFlags op (s.reg r) s.flagC, cycles := s.cycles + 8 } := by
  rw [rotReg, rotFlags_rotOut, rotOut_eq, State.tick, State.setReg_cycles]

/-- The (HL) form outside the infrared window (R192, R194, R196, R198, R200, R202, R204, R206). -/
theorem rotHl_free (op : RotOp) {s : State} (h : s.irBlocked s.hl = false) :
    rotHl op s = .next { s.busWrite s.hl (Claims.shiftedByte op (s.busRead s.hl) s.flagC) with
      f := Claims.shiftedFlags op (s.busRead s.hl) s.flagC, cycles := s.cycles + 16 } := by
  rw [rotHl, modifyHl_free _ _ h, rotFlags_rotOut, rotOut_eq, State.tick, State.busWrite_cycles]

/-! ## The obligations -/

/-- Settles O40: the four accumulator rotates, each an instance of the same rule. -/
theorem rotateA : Obligations.RotateA := by
  unfold Obligations.RotateA
  intro i s
  rw [exec_form, encode]
  refine ⟨fun h => ?rlca, fun h => ?rrca, fun h => ?rla, fun h => ?rra⟩
  all_goals rw [h]; exact ⟨rfl, rotA_next _ s⟩

/-- Settles O41: the bytes of the prefixed form, and the register rotated. -/
theorem rotateRegister : Obligations.RotateRegister := by
  unfold Obligations.RotateRegister
  intro i s op r h
  rw [exec_form, encode, h]
  exact ⟨rfl, rotReg_next op r s⟩

/-- Settles O42: the bytes of the prefixed form, and the byte at HL read, rotated and written back. -/
theorem rotateAtHl : Obligations.RotateAtHl := by
  unfold Obligations.RotateAtHl
  intro i s op h hfree
  rw [exec_form, encode, h]
  exact ⟨rfl, rotHl_free op hfree⟩

end Sys2Proof.Machine
end

section
/-! PROOF. Single bits (R207 to R212): the tested bit and the mask as the rules state them in whole numbers, then the
register and the (HL) forms. -/

namespace Sys2Proof.Machine

/-! ## The bit and its mask -/

/-- F after BIT, the tested bit in whole numbers (R207). -/
theorem bitFlags_eq_testedFlags (s : State) (n : Fin 8) (v : Byte) :
    s.bitFlags n v = { s with f := Claims.testedFlags n v s } := by
  have hbit : (!bitOf v n.val) = decide (v.toNat / 2 ^ n.val % 2 = 0) := by
    simp [bitOf, BitVec.getLsbD, Nat.testBit_eq_decide_div_mod_eq, ← decide_not]
  rw [State.bitFlags, State.writeFlags, hbit]
  rfl

/-- The mask of bit n as a power of two. -/
theorem one_shiftLeft_eq_ofNat (n : Nat) : 1#8 <<< n = BitVec.ofNat 8 (2 ^ n) :=
  BitVec.eq_of_toNat_eq (by simp [Nat.shiftLeft_eq])

/-- RES clears the bit of its mask (R209). -/
theorem clearBit_eq (n : Fin 8) (v : Byte) : clearBit n v = v &&& ~~~BitVec.ofNat 8 (2 ^ n.val) := by
  rw [clearBit, one_shiftLeft_eq_ofNat]

/-- SET sets the bit of its mask (R211). -/
theorem setBit_eq (n : Fin 8) (v : Byte) : setBit n v = v ||| BitVec.ofNat 8 (2 ^ n.val) := by
  rw [setBit, one_shiftLeft_eq_ofNat]

/-! ## The operand forms -/

/-- BIT b,r (R207). -/
theorem bitReg_next (n : Fin 8) (r : Reg8) (s : State) :
    bitReg n r s = .next { s with f := Claims.testedFlags n (s.reg r) s, cycles := s.cycles + 8 } := by
  rw [bitReg, bitFlags_eq_testedFlags, State.tick]

/-- BIT b,(HL) outside the infrared window (R208). -/
theorem bitHl_free (n : Fin 8) {s : State} (h : s.irBlocked s.hl = false) :
    bitHl n s = .next { s with f := Claims.testedFlags n (s.busRead s.hl) s, cycles := s.cycles + 12 } := by
  rw [bitHl, readHl_free _ h, bitFlags_eq_testedFlags, State.tick]

/-- RES b,r (R209). -/
theorem resReg_next (n : Fin 8) (r : Reg8) (s : State) :
    resReg n r s = .next { s.setReg r (s.reg r &&& ~~~BitVec.ofNat 8 (2 ^ n.val)) with
      cycles := s.cycles + 8 } := by
  rw [resReg, tick_setReg, clearBit_eq]

/-- RES b,(HL) outside the infrared window: the byte is written back, changed or not (R210). -/
theorem resHl_free (n : Fin 8) {s : State} (h : s.irBlocked s.hl = false) :
    resHl n s = .next { s.busWrite s.hl (s.busRead s.hl &&& ~~~BitVec.ofNat 8 (2 ^ n.val)) with
      cycles := s.cycles + 16 } := by
  rw [resHl, modifyHl_free _ _ h, tick_busWrite, clearBit_eq]

/-- SET b,r (R211). -/
theorem setReg_next (n : Fin 8) (r : Reg8) (s : State) :
    setReg n r s = .next { s.setReg r (s.reg r ||| BitVec.ofNat 8 (2 ^ n.val)) with
      cycles := s.cycles + 8 } := by
  rw [setReg, tick_setReg, setBit_eq]

/-- SET b,(HL) outside the infrared window: the byte is written back, changed or not (R212). -/
theorem setHl_free (n : Fin 8) {s : State} (h : s.irBlocked s.hl = false) :
    setHl n s = .next { s.busWrite s.hl (s.busRead s.hl ||| BitVec.ofNat 8 (2 ^ n.val)) with
      cycles := s.cycles + 16 } := by
  rw [setHl, modifyHl_free _ _ h, tick_busWrite, setBit_eq]

/-! ## The obligations -/

/-- Settles O43: the bytes of the two prefixed forms, and nothing of the state but F and the cycles. -/
theorem bitTest : Obligations.BitTest := by
  unfold Obligations.BitTest
  intro i s n r
  rw [exec_form, encode]
  refine ⟨fun h => ?bitReg, fun h hfree => ?bitHl⟩
  all_goals rw [h]
  case bitReg => exact ⟨rfl, bitReg_next n r s⟩
  case bitHl => exact ⟨rfl, bitHl_free n hfree⟩

/-- Settles O44: the bytes of the four prefixed forms, and the masked byte written to where it was read. -/
theorem resetSetBit : Obligations.ResetSetBit := by
  unfold Obligations.ResetSetBit
  intro i s n r
  rw [exec_form, encode]
  refine ⟨fun h => ?resReg, fun h hfree => ?resHl, fun h => ?setReg, fun h hfree => ?setHl⟩
  all_goals rw [h]
  case resReg => exact ⟨rfl, resReg_next n r s⟩
  case resHl => exact ⟨rfl, resHl_free n hfree⟩
  case setReg => exact ⟨rfl, setReg_next n r s⟩
  case setHl => exact ⟨rfl, setHl_free n hfree⟩

end Sys2Proof.Machine
end

section
/-! PROOF. Calls, restarts and returns (R218 to R223): `Push` or `Pop` outside the infrared window and PC to its
target, then each form with its condition and its cost. -/

namespace Sys2Proof.Machine

/-! ## The transfers through the stack -/

/-- A call outside the infrared window pushes PC_next and goes to its target (R218, R220). -/
theorem callTo_free (target : Addr) (cost : Nat) {s : State} (h : Claims.pushFree s) :
    callTo target cost s
      = .next { Claims.pushed s.pc s with pc := target, cycles := s.cycles + cost } := by
  rw [callTo, push_pushed _ _ h, State.jump, State.tick, pushed_cycles]

/-- A return outside the infrared window goes to the popped word (R221). -/
theorem returnTo_free (cost : Nat) {s : State} (h : Claims.popFree s) :
    returnTo cost s
      = .next { s with sp := s.sp + 2#16, pc := Claims.popped s, cycles := s.cycles + cost } :=
  pop_popped _ h

/-- A return from an interrupt outside the infrared window hands on the state returned to, with IME at once
(R223, R242). -/
theorem interruptReturn_free {s : State} (k : State → Result) (h : Claims.popFree s) :
    interruptReturn s k
      = k { s with sp := s.sp + 2#16, pc := Claims.popped s, ime := true, imePending := false } :=
  pop_popped _ h

/-- RETI outside the infrared window (R223). -/
theorem execReti_free {s : State} (h : Claims.popFree s) :
    execReti s = .next { s with
      sp := s.sp + 2#16, pc := Claims.popped s, ime := true, imePending := false, cycles := s.cycles + 16 } := by
  rw [execReti, interruptReturn_free _ h, State.tick]

/-! ## The conditions -/

/-- CALL cc taken is CALL (R219). -/
theorem callCond_taken {cc : Cond} (n : Addr) {s : State} (h : s.cond cc = true) :
    callCond cc n s = callTo n 24 s :=
  if_pos h

/-- CALL cc not taken only counts its cost (R219). -/
theorem callCond_not_taken {cc : Cond} (n : Addr) {s : State} (h : s.cond cc = false) :
    callCond cc n s = .next { s with cycles := s.cycles + 12 } :=
  if_neg (ne_true_of_eq_false h)

/-- RET cc taken is a return of its own cost (R222). -/
theorem retCond_taken {cc : Cond} {s : State} (h : s.cond cc = true) : retCond cc s = returnTo 20 s :=
  if_pos h

/-- RET cc not taken only counts its cost (R222). -/
theorem retCond_not_taken {cc : Cond} {s : State} (h : s.cond cc = false) :
    retCond cc s = .next { s with cycles := s.cycles + 8 } :=
  if_neg (ne_true_of_eq_false h)

/-! ## The obligations -/

/-- Settles O46: form by form, every push outside the infrared window; CALL cc by its condition. -/
theorem calls : Obligations.Calls := by
  unfold Obligations.Calls
  intro i s cc n t
  rw [exec_form, encode]
  refine ⟨fun h hfree => ?call, fun h hcond hfree => ?taken, fun h hcond => ?notTaken, fun h hfree => ?rst⟩
  all_goals rw [h]
  case call => exact ⟨rfl, callTo_free n 24 hfree⟩
  case taken => exact ⟨rfl, (callCond_taken n hcond).trans (callTo_free n 24 hfree)⟩
  case notTaken => exact callCond_not_taken n hcond
  case rst => exact ⟨rfl, callTo_free (rstTarget t) 16 hfree⟩

/-- Settles O47: form by form, every pop outside the infrared window; RET cc by its condition. -/
theorem returns : Obligations.Returns := by
  unfold Obligations.Returns
  intro i s cc
  rw [exec_form, encode]
  refine ⟨fun h hfree => ?ret, fun h hcond hfree => ?taken, fun h hcond => ?notTaken, fun h hfree => ?reti⟩
  all_goals rw [h]
  case ret => exact ⟨rfl, returnTo_free 16 hfree⟩
  case taken => exact ⟨rfl, (retCond_taken hcond).trans (returnTo_free 20 hfree)⟩
  case notTaken => exact retCond_not_taken hcond
  case reti => exact ⟨rfl, execReti_free hfree⟩

end Sys2Proof.Machine
end

section
/-! PROOF. NOP, STOP, HALT, DI, EI and the undefined opcodes (R224 to R229). -/

namespace Sys2Proof.Machine

/-- Settles O48: form by form, each the update of its rule and the cost. -/
theorem systemInstructions : Obligations.SystemInstructions := by
  unfold Obligations.SystemInstructions
  intro i s b
  rw [exec_form, encode]
  refine ⟨fun h => ?nop, fun h => ?stop, fun h => ?di, fun h => ?ei, fun h => ?undefined⟩
  all_goals rw [h]; exact ⟨rfl, rfl⟩

/-- Settles O49: the two branches of HALT. -/
theorem halt_enters : Obligations.Halt := by
  unfold Obligations.Halt
  intro i s h
  rw [exec_form, encode, h]
  refine ⟨rfl, fun hok => if_neg ?_, fun hime hpend => if_pos ⟨hime, hpend⟩⟩
  rintro ⟨hime, hpend⟩
  exact hok.elim (by simp [hime]) hpend

end Sys2Proof.Machine
end

section
/-! PROOF. The step (R230 to R241): what it does in each mode, the mark of a model fault, interrupt entry, and the
delay of EI. -/

namespace Sys2Proof.Machine

/-! ## The step of an unmarked state -/

/-- The step of an unmarked state goes by its mode (R230). -/
theorem step_unmarked {s : State} (h : s.fault = none) : step s = markFault s (stepMode exec s) := by
  rw [step, stepWith, h]

/-- Where no interrupt is dispatched, a Running step is the instruction's (R230). -/
theorem step_runsInstr {s : State} (h : Claims.runsInstr s) : step s = markFault s (executeNext exec s) := by
  obtain ⟨hfault, hmode, hirq⟩ := h
  have hno : ¬ (s.ime = true ∧ s.pend ≠ 0#8) := fun ⟨hime, hpend⟩ => hirq.elim (by simp [hime]) hpend
  rw [step_unmarked hfault, stepMode, hmode, stepRunning, if_neg hno]

/-- Where one is pending and enabled, a Running step is the dispatch (R240). -/
theorem step_dispatches {s : State} (hfault : s.fault = none) (hmode : s.mode = .running) (hime : s.ime = true)
    (hpend : s.pend ≠ 0#8) : step s = markFault s (dispatch s) := by
  rw [step_unmarked hfault, stepMode, hmode, stepRunning, if_pos ⟨hime, hpend⟩]

/-- Settles O8: the fetch gives the decoded instruction; the deferred enable and the mark by its outcome. -/
theorem stepRunsDecoded : Obligations.StepRunsDecoded := by
  unfold Obligations.StepRunsDecoded
  intro s i rest hrun hdecode hfree
  rw [step_runsInstr hrun, executeNext, fetch_free hdecode hfree]
  dsimp only [State.advance]
  cases exec i { s with pc := s.pc + BitVec.ofNat 16 (3 - rest.length) } with
  | next t => simp only [afterInstr, markFault, State.enableAfter, Bool.and_eq_true]
  | fault f => rfl
  | refused r => rfl

/-- A Locked or Stopped step only counts its cost (R230). -/
theorem stepMode_stuck {s : State} (h : s.mode = .locked ∨ s.mode = .stopped) :
    stepMode exec s = .next (s.tick 4) := by
  rcases h with h | h <;> rw [stepMode, h]

theorem stepMode_halted {s : State} (h : s.mode = .halted) : stepMode exec s = .next (stepHalted s) := by
  rw [stepMode, h]

/-- Settles O9: mode by mode; Halted by whether a request is pending and enabled. -/
theorem idleSteps : Obligations.IdleSteps := by
  unfold Obligations.IdleSteps
  intro s hfault
  rw [step_unmarked hfault]
  refine ⟨fun hmode => ?_, fun hmode hpend => ?_, fun hmode hpend => ?_⟩
  · rw [stepMode_stuck hmode]; rfl
  · have hidle : stepHalted s = s.tick 4 := if_neg (not_not_intro hpend)
    rw [stepMode_halted hmode, hidle]; rfl
  · have hwake : stepHalted s = State.tick 4 { s with mode := .running } := if_pos hpend
    rw [stepMode_halted hmode, hwake]; rfl

/-! ## The mark of a model fault (R236) -/

/-- A next state that is marked is the state before with the mark alone. -/
theorem step_marks {s t : State} (h : step s = .next t) (hmark : t.fault ≠ none) :
    t = { s with fault := t.fault } := by
  obtain ⟨f, rfl⟩ | hchanges := step_changes h
  · rfl
  · obtain ⟨hfault, -⟩ := step_cases h
    exact absurd (hchanges.fault.trans hfault) hmark

/-- Settles O11: the mark answers itself, and a next state is the mark or a chain of changes, which sets none. -/
theorem modelFaultStep : Obligations.ModelFaultStep := by
  unfold Obligations.ModelFaultStep
  exact ⟨fun s f h => by rw [step, stepWith, h], fun s h => step_total h, fun s t => step_marks⟩

/-! ## Interrupt entry (R241) -/

/-- The lowest source of a byte, seen under the mask of the five sources (R239, R240). -/
theorem lowestSource_masked {v : Byte} {n : Nat} (hn : n < 5) (hbit : v.getLsbD n = true)
    (hlow : ∀ m, m < n → v.getLsbD m = false) : v &&& 0x1F#8 ≠ 0#8 ∧ lowestSource (v &&& 0x1F#8) = n := by
  revert v n; decide

/-- A dispatch with SP = 0 (R241). -/
theorem dispatch_sp_zero {s : State} (h : s.sp = 0#16) : dispatch s = .fault .iePush := by
  rw [dispatch, if_pos h]

/-- The state in which a dispatch pushes PC: the request of source `n` and both enables cleared (R241). -/
def dispatchCleared (n : Nat) (s : State) : State := { s.clearRequest n with ime := false, imePending := false }

/-- A dispatch with another SP is a push of PC, then the jump to the vector (R241). -/
theorem dispatch_push {s : State} (h : s.sp ≠ 0#16) :
    dispatch s = push s.pc (dispatchCleared (lowestSource s.pend) s)
      (fun t => .next (State.tick 20 { t with pc := vectorOf (lowestSource s.pend) })) := by
  rw [dispatch, if_neg h]; rfl

/-- The slots of the push are as blocked as before the dispatch, which leaves SP and the cartridge alone. -/
theorem pushFree_dispatchCleared (n : Nat) (s : State) :
    Claims.pushFree (dispatchCleared n s) ↔ Claims.pushFree s := .rfl

/-- A push with a blocked slot raises F_HUC1_IR (R97). -/
theorem push_not_free {s : State} (w : Addr) (k : State → Result) (h : ¬ Claims.pushFree s) :
    push w s k = .fault .huc1Ir := by
  refine push_blocked w k ?_
  simpa [Claims.pushFree, imp_iff_not_or] using h

/-- Settles O10: the source, then the three outcomes of the dispatch. -/
theorem interruptEntry : Obligations.InterruptEntry := by
  unfold Obligations.InterruptEntry
  intro s n hfault hmode hime hn hbit hlow
  obtain ⟨hpend, hsource⟩ : s.pend ≠ 0#8 ∧ lowestSource s.pend = n := lowestSource_masked hn hbit hlow
  rw [step_dispatches hfault hmode hime hpend]
  refine ⟨fun hsp => ?_, fun hsp hfree => ?_, fun hsp hblocked => ?_⟩
  · rw [dispatch_sp_zero hsp, markFault]
  · rw [dispatch_push hsp, hsource, push_pushed _ _ ((pushFree_dispatchCleared n s).mpr hfree), State.tick,
      pushed_cycles]
    rfl
  · rw [dispatch_push hsp, push_not_free _ _ (mt (pushFree_dispatchCleared _ s).mp hblocked), markFault]

/-! ## The delay of EI (R232) -/

/-- A dispatch that leads to a next state: IME and IME_PENDING are clear, and the cost is 20 (R241). -/
theorem dispatch_next {s t : State} (h : dispatch s = .next t) :
    t.ime = false ∧ t.imePending = false ∧ t.cycles = s.cycles + 20 := by
  by_cases hsp : s.sp = 0#16
  · rw [dispatch_sp_zero hsp] at h; cases h
  · rw [dispatch_push hsp] at h
    rw [next_inj (push_next h).2.2]
    simp [dispatchCleared]

/-- A Halted step leaves the enables alone and costs 4 (R230, R251). -/
theorem stepHalted_keeps (s : State) :
    (stepHalted s).ime = s.ime ∧ (stepHalted s).imePending = s.imePending ∧ (stepHalted s).cycles = s.cycles + 4 := by
  unfold stepHalted
  split <;> exact ⟨rfl, rfl, rfl⟩

/-- RETI sets IME at once and clears IME_PENDING (R223). -/
theorem execReti_enables {s t : State} (h : execReti s = .next t) : t.ime = true ∧ t.imePending = false := by
  rw [execReti, interruptReturn] at h
  rw [next_inj (pop_next h).2.2]
  exact ⟨rfl, rfl⟩

/-- An instruction leaves IME as its form says: DI and RETI write it (R223, R227). -/
theorem exec_ime {i : Instr} {s t : State} (h : exec i s = .next t) :
    t.ime = if i.form = .di then false else if i.form = .reti then true else s.ime := by
  obtain ⟨hkeep, -⟩ := controlFrame i s t h
  rw [exec_form] at h
  split
  next hdi => rw [hdi] at h; rw [next_inj h]; rfl
  next hdi =>
    split
    next hreti => rw [hreti] at h; exact (execReti_enables h).1
    next hreti => exact hkeep hdi hreti

/-- An instruction leaves IME_PENDING as its form says: EI sets it, DI and RETI clear it (R223, R227, R228). -/
theorem exec_imePending {i : Instr} {s t : State} (h : exec i s = .next t) :
    t.imePending = if i.form = .ei then true else if i.form = .di ∨ i.form = .reti then false else s.imePending := by
  obtain ⟨-, hkeep, -⟩ := controlFrame i s t h
  rw [exec_form] at h
  split
  next hei => rw [hei] at h; rw [next_inj h]; rfl
  next hei =>
    split
    next hwrites =>
      rcases hwrites with hdi | hreti
      · rw [hdi] at h; rw [next_inj h]; rfl
      · rw [hreti] at h; exact (execReti_enables h).2
    next hwrites => exact hkeep (fun e => hwrites (.inl e)) (fun e => hwrites (.inr e)) hei

/-- Where an instruction runs, an unmarked next state is its own after the deferred enable. -/
theorem step_runsInstr_next {s t : State} {i : Instr} {rest : List Byte} (hrun : Claims.runsInstr s)
    (hdecode : decode (Claims.bytesAtPc s) = .ok (i, rest)) (h : step s = .next t) (hmark : t.fault = none) :
    ∃ len u, exec i (s.advance len) = .next u ∧ t = u.enableAfter s.imePending := by
  obtain ⟨-, hmode, hirq⟩ := hrun
  obtain ⟨-, ⟨f, -, rfl⟩ | ⟨hm, -⟩ | ⟨hm, -⟩ | ⟨-, hime, hpend, -⟩ | ⟨-, -, j, len, u, hfetch, hexec, rfl⟩⟩ :=
    step_cases h
  · cases hmark
  · rw [hmode] at hm; exact absurd hm (by decide)
  · rw [hmode] at hm; cases hm
  · exact hirq.elim (by simp [hime]) (absurd · hpend)
  · obtain ⟨rest', hdecode', -⟩ := fetch_ok hfetch
    obtain ⟨rfl, -⟩ : i = j ∧ rest = rest' := by
      simpa using hdecode.symm.trans hdecode'
    exact ⟨len, u, hexec, rfl⟩

/-- The deferred enable where an EI was pending before the instruction (R232). -/
theorem enableAfter_true (u : State) :
    (u.enableAfter true).ime = (u.ime || u.imePending) ∧ (u.enableAfter true).imePending = false := by
  unfold State.enableAfter
  cases hpending : u.imePending <;> simp [hpending]

/-- With no EI pending before the instruction there is no deferred enable (R232). -/
theorem enableAfter_false (u : State) : u.enableAfter false = u := rfl

/-- The enables after an instruction and the deferred enable (R232). -/
theorem enables_after_exec {i : Instr} {s u : State} (h : exec i s = .next u) :
    (s.imePending = true → (u.enableAfter true).imePending = false
      ∧ (i.form = .di → (u.enableAfter true).ime = false) ∧ (i.form ≠ .di → (u.enableAfter true).ime = true))
    ∧ (s.imePending = false → u.imePending = decide (i.form = .ei)) := by
  obtain ⟨hime, hpending⟩ := enableAfter_true u
  rw [hime, hpending, exec_ime h, exec_imePending h]
  refine ⟨fun hs => ⟨rfl, fun hdi => ?_, fun hdi => ?_⟩, fun hs => ?_⟩
  · simp [hdi]
  · by_cases hreti : i.form = .reti
    · simp [hreti]
    · simp [hdi, hreti, hs]
  · by_cases hei : i.form = .ei <;> simp [hei, hs]

/-- Settles O12: an instruction by what it writes of the enables; the idle steps, the dispatch and the mark. -/
theorem eiDelay : Obligations.EiDelay := by
  unfold Obligations.EiDelay
  refine ⟨fun s t i rest hrun hdecode hstep hmark => ?instr, fun s t hmode hstep => ?idle,
    fun s t hmode hime hpend hstep hmark => ?dispatch, fun s t hstep hmark => ?mark⟩
  case instr =>
    obtain ⟨len, u, hexec, rfl⟩ := step_runsInstr_next hrun hdecode hstep hmark
    obtain ⟨hset, hclear⟩ := enables_after_exec hexec
    have hime := exec_ime hexec
    refine ⟨fun hs => ?_, fun hs => ?_⟩
    · rw [hs]; exact hset hs
    · rw [hs, enableAfter_false]; exact ⟨hclear hs, hime⟩
  case idle =>
    obtain ⟨-, ⟨f, -, rfl⟩ | ⟨-, rfl⟩ | ⟨-, rfl⟩ | ⟨hm, -⟩ | ⟨hm, -⟩⟩ := step_cases hstep
    · exact ⟨rfl, rfl⟩
    · exact ⟨rfl, rfl⟩
    · obtain ⟨hime, hpending, -⟩ := stepHalted_keeps s
      exact ⟨hime, hpending⟩
    · exact absurd hm hmode
    · exact absurd hm hmode
  case dispatch =>
    obtain ⟨hfault, -⟩ := step_cases hstep
    rw [step_dispatches hfault hmode hime hpend] at hstep
    cases hd : dispatch s with
    | next u =>
      rw [hd] at hstep
      obtain ⟨himeClear, hpendingClear, -⟩ := dispatch_next hd
      rw [next_inj hstep]; exact ⟨himeClear, hpendingClear⟩
    | fault f => rw [hd] at hstep; rw [next_inj hstep] at hmark; cases hmark
    | refused r => exact absurd hd (dispatch_ne_refused s r)
  case mark => rw [step_marks hstep hmark]; exact ⟨rfl, rfl⟩

end Sys2Proof.Machine
end

section
/-! PROOF. What a step costs (R230, R231, R236), and `emulate` (R246). -/

namespace Sys2Proof.Machine

/-! ## The cost of an instruction -/

/-- From one count of CYCLES to the other is the cost of a step: a multiple of 4 from 4 to 24 (R231). -/
def StepCost (before after : Nat) : Prop := ∃ k, 1 ≤ k ∧ k ≤ 6 ∧ after = before + 4 * k

section

variable {s t : State}

/-- A next state that counts `4 * k` cycles from the state before. -/
theorem next_cost {u : State} (k : Nat) (h : (Host.Outcome.next (u.tick (4 * k)) : Result) = .next t)
    (hu : u.cycles = s.cycles := by simp) (hk : 1 ≤ k ∧ k ≤ 6 := by decide) : StepCost s.cycles t.cycles := by
  obtain ⟨hlow, hhigh⟩ := hk
  exact ⟨k, hlow, hhigh, by rw [next_inj h, State.tick_cycles, hu]⟩

theorem loadA_cost {a : Addr} (k : Nat) (h : loadA a (4 * k) s = .next t) (hk : 1 ≤ k ∧ k ≤ 6 := by decide) :
    StepCost s.cycles t.cycles := next_cost k (readByte_next h).2 rfl hk

theorem storeA_cost {a : Addr} (k : Nat) (h : storeA a (4 * k) s = .next t) (hk : 1 ≤ k ∧ k ≤ 6 := by decide) :
    StepCost s.cycles t.cycles := next_cost k (writeByte_next h).2 (by simp) hk

theorem rotA_cost {op : RotOp} (h : rotA op s = .next t) : StepCost s.cycles t.cycles := next_cost 1 h

theorem callTo_cost {a : Addr} (k : Nat) (h : callTo a (4 * k) s = .next t) (hk : 1 ≤ k ∧ k ≤ 6 := by decide) :
    StepCost s.cycles t.cycles := next_cost k (push_next h).2.2 (by simp) hk

theorem returnTo_cost (k : Nat) (h : returnTo (4 * k) s = .next t) (hk : 1 ≤ k ∧ k ≤ 6 := by decide) :
    StepCost s.cycles t.cycles := next_cost k (pop_next h).2.2 rfl hk

/-- The prefixed forms (R191 to R212). -/
theorem runCb_cost {g : CbForm} (h : runCb g s = .next t) : StepCost s.cycles t.cycles := by
  cases g <;> simp only [runCb, rotReg, rotHl, bitReg, bitHl, resReg, resHl, setReg, setHl] at h
  case rotReg | bitReg | resReg | setReg => exact next_cost 2 h
  case bitHl => exact next_cost 3 (readHl_next h).2
  case rotHl | resHl | setHl => exact next_cost 4 (modifyHl_next h).2

/-- Every form (R124 to R229). -/
theorem execForm_cost {f : Form} (h : execForm f s = .next t) : StepCost s.cycles t.cycles := by
  cases f <;> simp only [execForm] at h
  case ldRegReg | aluReg | incReg | decReg | daa | cpl | scf | ccf | jpHl | nop | stop | di | ei | undefined =>
    exact next_cost 1 h
  case ldRegImm | ldSpHl | aluImm | addHl | incPair | decPair => exact next_cost 2 h
  case ldPairImm | ldHlSpOff | jr => exact next_cost 3 h
  case addSp | jp => exact next_cost 4 h
  case rlca | rrca | rla | rra => exact rotA_cost h
  case ldRegHl | ldAHlInc | ldAHlDec | aluHl => exact next_cost 2 (readHl_next h).2
  case ldHlReg | ldHlIncA | ldHlDecA => exact next_cost 2 (writeHl_next h).2
  case ldHlImm => exact next_cost 3 (writeHl_next h).2
  case incAtHl | decAtHl => exact next_cost 3 (modifyHl_next h).2
  case ldABc | ldADe | ldAHighC => exact loadA_cost 2 h
  case ldAHigh => exact loadA_cost 3 h
  case ldAAbs => exact loadA_cost 4 h
  case ldBcA | ldDeA | ldHighCA => exact storeA_cost 2 h
  case ldHighA => exact storeA_cost 3 h
  case ldAbsA => exact storeA_cost 4 h
  case ldAbsSp => exact next_cost 5 (writeWord_next h).2.2
  case push => exact next_cost 4 (push_next h).2.2
  case pop => exact next_cost 3 (pop_next h).2.2
  case cb g => exact runCb_cost h
  case jpCond cc n =>
    rw [jpCond] at h; split at h
    · exact next_cost 4 h
    · exact next_cost 3 h
  case jrCond cc n =>
    rw [jrCond] at h; split at h
    · exact next_cost 3 h
    · exact next_cost 2 h
  case call => exact callTo_cost 6 h
  case rst => exact callTo_cost 4 h
  case callCond cc n =>
    rw [callCond] at h; split at h
    · exact callTo_cost 6 h
    · exact next_cost 3 h
  case ret => exact returnTo_cost 4 h
  case retCond cc =>
    rw [retCond] at h; split at h
    · exact returnTo_cost 5 h
    · exact next_cost 2 h
  case reti =>
    rw [execReti, interruptReturn] at h
    exact next_cost 4 (pop_next h).2.2
  case halt =>
    rw [execHalt] at h; split at h
    · cases h
    · exact next_cost 1 h

/-- Every instruction, by its form. -/
theorem exec_cost {i : Instr} (h : exec i s = .next t) : StepCost s.cycles t.cycles :=
  execForm_cost (exec_form i s ▸ h)

/-! ## The cost of a step -/

/-- A step that marks no fault has a cost of R231. -/
theorem step_cost (h : step s = .next t) (hmark : t.fault = none) : StepCost s.cycles t.cycles := by
  obtain ⟨-, ⟨f, -, rfl⟩ | ⟨-, rfl⟩ | ⟨-, rfl⟩ | ⟨-, -, -, hd⟩ | ⟨-, -, i, len, u, -, hexec, rfl⟩⟩ := step_cases h
  · cases hmark
  · exact ⟨1, by decide, by decide, rfl⟩
  · obtain ⟨-, -, hcycles⟩ := stepHalted_keeps s
    exact ⟨1, by decide, by decide, hcycles⟩
  · obtain ⟨-, -, hcycles⟩ := dispatch_next hd
    exact ⟨5, by decide, by decide, hcycles⟩
  · have hcost := exec_cost hexec
    rwa [State.enableAfter_cycles]

/-- A step that marks a fault costs nothing (R236). -/
theorem step_marks_cycles (h : step s = .next t) (hmark : t.fault ≠ none) : t.cycles = s.cycles := by
  rw [step_marks h hmark]

end

/-- Settles O14: the cost of a step that marks no fault, and of one that does. -/
theorem costsInRange : Obligations.CostsInRange := by
  unfold Obligations.CostsInRange
  intro s t h
  refine ⟨fun hmark => ?_, step_marks_cycles h⟩
  obtain ⟨k, hlow, hhigh, hcycles⟩ := step_cost h hmark
  omega

/-! ## The loop of `emulate` -/

/-- The loop stops where the budget is used up or a fault is marked (R246). -/
theorem emulateLoop_stopped (fuel : Nat) {remaining : Int} {s : State} (h : ¬ (0 < remaining ∧ s.fault = none)) :
    emulateLoop fuel remaining s = (remaining, s) := by
  cases fuel with
  | zero => rfl
  | succ fuel => rw [emulateLoop, if_neg h]

/-- The loop takes a step and goes on with the budget less its cost (R246). -/
theorem emulateLoop_succ (fuel : Nat) {remaining : Int} {s t : State} (hpos : 0 < remaining) (hfault : s.fault = none)
    (hstep : step s = .next t) :
    emulateLoop (fuel + 1) remaining s = emulateLoop fuel (remaining - costOf s t) t := by
  rw [emulateLoop, if_pos ⟨hpos, hfault⟩, hstep]

/-- The cost `Step()` returns, where no fault is marked. -/
theorem costOf_range {s t : State} (h : step s = .next t) (hmark : t.fault = none) :
    4 ≤ costOf s t ∧ costOf s t ≤ 24 := by
  obtain ⟨k, hlow, hhigh, hcycles⟩ := step_cost h hmark
  rw [costOf]
  omega

/-- The cost `Step()` returns, where a fault is marked. -/
theorem costOf_marked {s t : State} (h : step s = .next t) (hmark : t.fault ≠ none) : costOf s t = 0 := by
  rw [costOf, step_marks_cycles h hmark, Int.sub_self]

/-- Any two numbers of steps that are at least the budget run the same loop: a step costs more than 1, or marks
a fault that stops the loop. -/
theorem emulateLoop_fuel {fuel fuel' : Nat} {remaining : Int} (s : State) (h : remaining.toNat ≤ fuel)
    (h' : remaining.toNat ≤ fuel') : emulateLoop fuel remaining s = emulateLoop fuel' remaining s := by
  induction fuel generalizing fuel' remaining s with
  | zero =>
    have hstop : ¬ (0 < remaining ∧ s.fault = none) := by omega
    rw [emulateLoop_stopped _ hstop, emulateLoop_stopped _ hstop]
  | succ fuel ih =>
    by_cases hgo : 0 < remaining ∧ s.fault = none
    · obtain ⟨hpos, hfault⟩ := hgo
      obtain ⟨t, hstep⟩ := step_total hfault
      obtain ⟨fuel', rfl⟩ := Nat.exists_eq_add_one.mpr (show 0 < fuel' by omega)
      rw [emulateLoop_succ _ hpos hfault hstep, emulateLoop_succ _ hpos hfault hstep]
      by_cases hmark : t.fault = none
      · obtain ⟨hcost, -⟩ := costOf_range hstep hmark
        exact ih t (by omega) (by omega)
      · have hstop : ¬ (0 < remaining - costOf s t ∧ t.fault = none) := fun h => hmark h.2
        rw [emulateLoop_stopped _ hstop, emulateLoop_stopped _ hstop]
    · rw [emulateLoop_stopped _ hgo, emulateLoop_stopped _ hgo]

/-! ## `emulate` -/

theorem emulate_stopped {budget : Int} {s : State} (h : ¬ (0 < budget ∧ s.fault = none)) :
    emulate budget s = (budget, s) := emulateLoop_stopped _ h

/-- `emulate` takes a step and goes on with the budget less its cost (R246). -/
theorem emulate_step {budget : Int} {s t : State} (hpos : 0 < budget) (hfault : s.fault = none)
    (hstep : step s = .next t) : emulate budget s = emulate (budget - costOf s t) t := by
  obtain ⟨fuel, hfuel⟩ := Nat.exists_eq_add_one.mpr (show 0 < budget.toNat by omega)
  rw [emulate, hfuel, emulateLoop_succ _ hpos hfault hstep]
  by_cases hmark : t.fault = none
  · obtain ⟨hcost, -⟩ := costOf_range hstep hmark
    exact emulateLoop_fuel t (by omega) le_rfl
  · rw [emulate_stopped fun h => hmark h.2, emulateLoop_stopped _ fun h => hmark h.2]

/-- What holds where `emulate` stops and is carried back over a step holds of every call. -/
theorem emulate_induction {P : Int → State → Int × State → Prop}
    (stopped : ∀ budget s, ¬ (0 < budget ∧ s.fault = none) → P budget s (budget, s))
    (stepped : ∀ budget s t r, 0 < budget → step s = .next t → P (budget - costOf s t) t r → P budget s r)
    (budget : Int) (s : State) : P budget s (emulate budget s) := by
  induction hn : budget.toNat using Nat.strong_induction_on generalizing budget s with
  | _ n ih =>
    subst hn
    by_cases hgo : 0 < budget ∧ s.fault = none
    · obtain ⟨hpos, hfault⟩ := hgo
      obtain ⟨t, hstep⟩ := step_total hfault
      rw [emulate_step hpos hfault hstep]
      refine stepped budget s t _ hpos hstep ?_
      by_cases hmark : t.fault = none
      · obtain ⟨hcost, -⟩ := costOf_range hstep hmark
        exact ih _ (by omega) _ t rfl
      · have hstop : ¬ (0 < budget - costOf s t ∧ t.fault = none) := fun h => hmark h.2
        rw [emulate_stopped hstop]
        exact stopped _ t hstop
    · rw [emulate_stopped hgo]
      exact stopped budget s hgo

/-- The return value is the budget less the growth of CYCLES (R246). -/
theorem emulate_remaining (budget : Int) (s : State) :
    (emulate budget s).1 = budget - costOf s (emulate budget s).2 := by
  refine emulate_induction (P := fun budget s r => r.1 = budget - costOf s r.2) (fun budget s _ => ?_)
    (fun budget s t r _ _ ih => ?_) budget s
  · simp [costOf]
  · simp only [costOf] at ih ⊢; omega

/-- A return value above 0 is that of a run which a fault stopped (R246). -/
theorem emulate_positive_marked (budget : Int) (s : State) :
    0 < (emulate budget s).1 → (emulate budget s).2.fault ≠ none :=
  emulate_induction (P := fun _ _ r => 0 < r.1 → r.2.fault ≠ none) (fun _ _ hstop hpos hfault => hstop ⟨hpos, hfault⟩)
    (fun _ _ _ _ _ _ ih => ih) budget s

/-- The last step overshoots by at most 23 (R246). -/
theorem emulate_overshoot (budget : Int) (s : State) : -23 ≤ budget → -23 ≤ (emulate budget s).1 := by
  refine emulate_induction (P := fun budget _ r => -23 ≤ budget → -23 ≤ r.1) (fun _ _ _ h => h)
    (fun budget s t r hpos hstep ih _ => ih ?_) budget s
  by_cases hmark : t.fault = none
  · obtain ⟨-, hcost⟩ := costOf_range hstep hmark
    omega
  · rw [costOf_marked hstep hmark]; omega

/-- Settles O15: the equations of the loop, then the three facts by induction along it. -/
theorem emulateBudget : Obligations.EmulateBudget := by
  unfold Obligations.EmulateBudget
  intro budget s hfault
  exact ⟨fun h => emulate_stopped (by omega), fun hpos t hstep => emulate_step hpos hfault hstep,
    emulate_remaining budget s, emulate_positive_marked budget s, fun hpos => emulate_overshoot budget s (by omega)⟩

end Sys2Proof.Machine
end

section
/-! PROOF. The host's actions (R252, R253), and a Locked core between them (R235). -/

namespace Sys2Proof.Machine

/-! ## The write actions -/

/-- A `write_io` that has a state stores one byte of I/O. -/
theorem hostWriteIo_some {a : Addr} {v : Byte} {s t : State} (h : hostWriteIo a v s = some t) :
    Memory.isKey a.toNat = true ∧ t = { s with mem := s.mem.write a.toNat v } := by
  unfold hostWriteIo at h
  split at h
  · refine ⟨?_, (Option.some.inj h).symm⟩
    simp only [Memory.isKey, Bool.or_eq_true, decide_eq_true_eq]
    omega
  · cases h

/-- A `write_video` that has a state stores one byte of VRAM or OAM. -/
theorem hostWriteVideo_some {a : Addr} {v : Byte} {s t : State} (h : hostWriteVideo a v s = some t) :
    Memory.isKey a.toNat = true ∧ t = { s with mem := s.mem.write a.toNat v } := by
  unfold hostWriteVideo at h
  split at h
  · refine ⟨?_, (Option.some.inj h).symm⟩
    simp only [Memory.isKey, Bool.or_eq_true, decide_eq_true_eq]
    omega
  · cases h

/-- `wake_stop` by mode (R253). -/
theorem hostWakeStop_eq (s : State) :
    hostWakeStop s = if s.mode = .stopped then { s with mode := .running } else s := by
  unfold hostWakeStop
  cases s.mode <;> rfl

/-- Settles O60: the two write actions by whether the address is one the host may name. -/
theorem hostActions : Obligations.HostActions := by
  unfold Obligations.HostActions
  intro s a v
  refine ⟨fun h1 h2 h3 => if_pos ⟨h1, h2, h3⟩, fun h => if_neg ?_, fun h => if_pos h, fun h => if_neg h,
    congrArg some (hostWakeStop_eq s), rfl⟩
  rintro ⟨h1, h2, h3⟩
  rcases h with h | h | h
  · omega
  · omega
  · exact h3 h

/-! ## What a host action can do -/

/-- Everything a host action that is no reset can have done: stored a byte that exists, woken a Stopped core, or
given CART another value (R252, R253). -/
theorem hostAction_cases {act : HostAction} {s t : State} (h : act.apply s = some t) :
    (∃ key v, Memory.isKey key = true ∧ t = { s with mem := s.mem.write key v })
    ∨ (s.mode = .stopped ∧ t = { s with mode := .running })
    ∨ (∃ cart, (s.cart.all cartWf = true → cart.all cartWf = true) ∧ t = { s with cart := cart })
    ∨ (∃ boot init, act = .reset boot init ∧ t = hostReset boot init s) := by
  cases act with
  | writeIo a v =>
    obtain ⟨hkey, rfl⟩ := hostWriteIo_some h
    exact .inl ⟨_, v, hkey, rfl⟩
  | writeVideo a v =>
    obtain ⟨hkey, rfl⟩ := hostWriteVideo_some h
    exact .inl ⟨_, v, hkey, rfl⟩
  | wakeStop =>
    have ht : t = hostWakeStop s := (Option.some.inj h).symm
    rw [hostWakeStop_eq] at ht
    split at ht
    next hmode => exact .inr (.inl ⟨hmode, ht⟩)
    next => exact .inr (.inr (.inl ⟨s.cart, id, ht⟩))
  | rtcTick =>
    refine .inr (.inr (.inl ⟨s.cart.map cartRtcTick, fun hwf => ?_, (Option.some.inj h).symm⟩))
    cases hc : s.cart with
    | none => rfl
    | some c => rw [hc] at hwf; exact cartWf_cartRtcTick hwf
  | loadCartridge init bytes =>
    refine .inr (.inr (.inl ?_))
    simp only [HostAction.apply, loadCartridge, loadImage] at h
    cases hparse : tryParse init (RomImage.ofBytes bytes) with
    | ok c => rw [hparse] at h; exact ⟨some c, fun _ => cartWf_tryParse hparse, (Option.some.inj h).symm⟩
    | error e => rw [hparse] at h; exact ⟨s.cart, id, (Option.some.inj h).symm⟩
  | unloadCartridge => exact .inr (.inr (.inl ⟨none, fun _ => rfl, (Option.some.inj h).symm⟩))
  | reset boot init => exact .inr (.inr (.inr ⟨boot, init, rfl, (Option.some.inj h).symm⟩))

/-- Settles O18: a stored byte exists, a loaded cartridge is well formed, and the reset keeps the invariant. -/
theorem hostActionsKeepWf : Obligations.HostActionsKeepWf := by
  unfold Obligations.HostActionsKeepWf
  intro act s t hwf h
  obtain ⟨key, v, hkey, rfl⟩ | ⟨-, rfl⟩ | ⟨cart, hcart, rfl⟩ | ⟨boot, init, -, rfl⟩ := hostAction_cases h
  · obtain ⟨hf, hmem, hkeys, hc⟩ := (wf_iff s).mp hwf
    exact (wf_iff _).mpr ⟨hf, Memory.wf_write _ _ hmem, keysStored_write _ hkeys hkey, hc⟩
  · exact hwf
  · simp only [State.wf, Bool.and_eq_true] at hwf ⊢
    obtain ⟨hrest, hc⟩ := hwf
    exact ⟨hrest, hcart hc⟩
  · exact wf_hostReset boot init hwf

/-! ## A Locked core (R235) -/

/-- The control state and the registers that a Locked core keeps. -/
structure SameCore (s t : State) : Prop where
  mode : t.mode = s.mode
  fault : t.fault = s.fault
  pc : t.pc = s.pc
  sp : t.sp = s.sp
  reg : ∀ r, t.reg r = s.reg r
  f : t.f = s.f
  ime : t.ime = s.ime
  imePending : t.imePending = s.imePending
  ie : t.ie = s.ie

theorem SameCore.refl (s : State) : SameCore s s := ⟨rfl, rfl, rfl, rfl, fun _ => rfl, rfl, rfl, rfl, rfl⟩

theorem SameCore.trans {s u t : State} (h : SameCore s u) (h' : SameCore u t) : SameCore s t :=
  ⟨h'.mode.trans h.mode, h'.fault.trans h.fault, h'.pc.trans h.pc, h'.sp.trans h.sp,
    fun r => (h'.reg r).trans (h.reg r), h'.f.trans h.f, h'.ime.trans h.ime, h'.imePending.trans h.imePending,
    h'.ie.trans h.ie⟩

/-- A change of the bus storage, CART and CYCLES alone. -/
theorem SameCore.update (s : State) (mem : Memory) (cart : Option Cartridge) (cycles : Nat) :
    SameCore s { s with mem := mem, cart := cart, cycles := cycles } :=
  ⟨rfl, rfl, rfl, rfl, fun r => by cases r <;> rfl, rfl, rfl, rfl, rfl⟩

/-- The cycles an event counts on a Locked core: 4 a step (R230, R235). -/
def lockedCost (e : Event) : Nat := if e = .step then 4 else 0

/-- An event that is no reset leaves a Locked core as it is, but for its cost. -/
theorem event_locked {e : Event} {s t : State} (hmode : s.mode = .locked) (hfault : s.fault = none)
    (hreset : Claims.isReset e = false) (h : e.apply s = some t) :
    SameCore s t ∧ t.cycles = s.cycles + lockedCost e := by
  cases e with
  | step =>
    rw [Event.apply, step_unmarked hfault, stepMode_stuck (.inl hmode)] at h
    rw [← Option.some.inj h]
    exact ⟨.update s s.mem s.cart _, rfl⟩
  | host act =>
    obtain ⟨key, v, -, rfl⟩ | ⟨hstopped, -⟩ | ⟨cart, -, rfl⟩ | ⟨boot, init, rfl, -⟩ := hostAction_cases h
    · exact ⟨.update s _ s.cart s.cycles, rfl⟩
    · rw [hmode] at hstopped; cases hstopped
    · exact ⟨.update s s.mem cart s.cycles, rfl⟩
    · cases hreset

/-- The cycles of a list of events are those of its steps. -/
theorem lockedCost_sum (events : List Event) :
    (events.map lockedCost).sum = 4 * (events.filter (fun e => e == .step)).length := by
  induction events with
  | nil => rfl
  | cons e rest ih =>
    rw [List.map_cons, List.sum_cons, ih, List.filter_cons, lockedCost]
    by_cases he : e = .step
    · simp [he]; omega
    · simp [he]

/-- Events without a reset leave a Locked core as it is, but for their costs. -/
theorem runEvents_locked {events : List Event} {s t : State} (hmode : s.mode = .locked) (hfault : s.fault = none)
    (hreset : events.all (fun e => !Claims.isReset e) = true) (h : runEvents events s = some t) :
    SameCore s t ∧ t.cycles = s.cycles + (events.map lockedCost).sum := by
  induction events generalizing s with
  | nil => rw [← Option.some.inj h]; exact ⟨.refl s, rfl⟩
  | cons e rest ih =>
    obtain ⟨u, hu, hrest⟩ := Option.bind_eq_some_iff.mp h
    simp only [List.all_cons, Bool.and_eq_true, Bool.not_eq_true'] at hreset
    obtain ⟨he, hreset⟩ := hreset
    obtain ⟨hcore, hcycles⟩ := event_locked hmode hfault he hu
    obtain ⟨hcore', hcycles'⟩ := ih (hcore.mode.trans hmode) (hcore.fault.trans hfault) hreset hrest
    refine ⟨hcore.trans hcore', ?_⟩
    rw [hcycles', hcycles, List.map_cons, List.sum_cons, Nat.add_assoc]

/-- Settles O13: by induction on the events, each of which keeps the core. -/
theorem lockedForever : Obligations.LockedForever := by
  unfold Obligations.LockedForever
  intro events s t hmode hfault hreset hrun
  obtain ⟨hcore, hcycles⟩ := runEvents_locked hmode hfault hreset hrun
  rw [lockedCost_sum] at hcycles
  exact ⟨hcore.mode.trans hmode, hcore.fault.trans hfault, hcore.pc, hcore.sp, hcore.reg, hcore.f, hcore.ime,
    hcore.imePending, hcore.ie, hcycles⟩

end Sys2Proof.Machine
end
